-- ==== Sys2Proof/Word.lean ====
section
/-! DEFINITION. The two value widths of the hardware (00_scope.md R7): a byte is 8 bits, a word is 16 bits. `+` and `-`
on them are the spec's `+8`, `-8`, `+16`, `-16`. -/

namespace Sys2Proof

abbrev Byte := BitVec 8
abbrev Word := BitVec 16

end Sys2Proof
end

