-- ==== Sys2Proof/Config.lean ====
section
/-! DEFINITION. The configuration record `CFG` of 00_scope.md R5: what the spec leaves to the implementation and gives a
default for. The default itself is `Sys2Proof.cfg`, in Decode.lean beside the opcode table whose column it is. The
machine runs with any configuration (Machine/Configured.lean); `exec` and `step` are the machine with the default one. -/

namespace Sys2Proof

/-- Where an undocumented opcode byte dispatches to: NOP or the catch-all (30_encoding.md R97). -/
inductive UndocOp where
  | NOP | XXX
  deriving DecidableEq, Repr

/-- `CFG` (00_scope.md R5). `baseCycles` is the base cycle count of each opcode byte, `undocOp` the operation of each
undocumented opcode byte (it is not asked about the others), `nopExtra` the opcode bytes whose NOP returns the
extra-cycle signal. The other three are the lengths of the `Reset`, `Irq` and `Nmi` entries, which the spec fixes
(`Config.wellFormed`). -/
structure Config where
  baseCycles : Byte → Nat
  undocOp : Byte → UndocOp
  nopExtra : List Byte
  resetCycles : Nat
  irqCycles : Nat
  nmiCycles : Nat

end Sys2Proof
end

