-- ==== Sys2Proof/Syntax.lean ====
section
/-! DEFINITION. The instruction set as syntax: the 57 operations of 30_encoding.md R96 and R97 (56 documented ones and
the catch-all `XXX`), the twelve addressing modes of R92 with their operand bytes, and `Instr`, one constructor for
each of the 256 rows of spec/opcode_table.json. A constructor is named after its row: the mnemonic, then the mode code
where the mnemonic has several rows, or the opcode byte for the 105 undocumented slots. -/

namespace Sys2Proof

/-- The operations an opcode byte can select (30_encoding.md R94, R96, R97). -/
inductive Op where
  | LDA | LDX | LDY | STA | STX | STY | TAX | TAY | TXA | TYA | TSX | TXS
  | AND | ORA | EOR | BIT | ADC | SBC | CMP | CPX | CPY | ASL | LSR | ROL
  | ROR | INC | DEC | INX | INY | DEX | DEY | BCC | BCS | BEQ | BNE | BMI
  | BPL | BVC | BVS | JMP | JSR | RTS | PHA | PHP | PLA | PLP | CLC | CLD
  | CLI | CLV | SEC | SED | SEI | BRK | RTI | NOP | XXX
  deriving DecidableEq, Repr

/-- The twelve addressing modes without their operands (30_encoding.md R92). -/
inductive ModeKind where
  | IMP | IMM | ZP0 | ZPX | ZPY | REL | ABS | ABX | ABY | IND | IZX | IZY
  deriving DecidableEq, Repr

/-- An addressing mode with the operand bytes the instruction carries for it (30_encoding.md R92). A two-byte operand
is held as the word it stands for, `{hi, lo}`. -/
inductive Mode where
  | imp
  | imm (v : Byte)
  | zp0 (z : Byte)
  | zpx (z : Byte)
  | zpy (z : Byte)
  | rel (d : Byte)
  | abs (w : Word)
  | abx (w : Word)
  | aby (w : Word)
  | ind (w : Word)
  | izx (z : Byte)
  | izy (z : Byte)
  deriving DecidableEq, Repr

def Mode.kind : Mode → ModeKind
  | .imp => .IMP
  | .imm _ => .IMM
  | .zp0 _ => .ZP0
  | .zpx _ => .ZPX
  | .zpy _ => .ZPY
  | .rel _ => .REL
  | .abs _ => .ABS
  | .abx _ => .ABX
  | .aby _ => .ABY
  | .ind _ => .IND
  | .izx _ => .IZX
  | .izy _ => .IZY

/-- Operand bytes of a mode (30_encoding.md R91). -/
def ModeKind.operandBytes : ModeKind → Nat
  | .IMP => 0
  | .IMM | .ZP0 | .ZPX | .ZPY | .REL | .IZX | .IZY => 1
  | .ABS | .ABX | .ABY | .IND => 2

/-- One constructor for each row of the opcode table (30_encoding.md R96, R97). -/
inductive Instr where
  | ldaIzx (z : Byte)
  | ldaZp0 (z : Byte)
  | ldaImm (v : Byte)
  | ldaAbs (w : Word)
  | ldaIzy (z : Byte)
  | ldaZpx (z : Byte)
  | ldaAby (w : Word)
  | ldaAbx (w : Word)
  | ldxImm (v : Byte)
  | ldxZp0 (z : Byte)
  | ldxAbs (w : Word)
  | ldxZpy (z : Byte)
  | ldxAby (w : Word)
  | ldyImm (v : Byte)
  | ldyZp0 (z : Byte)
  | ldyAbs (w : Word)
  | ldyZpx (z : Byte)
  | ldyAbx (w : Word)
  | staIzx (z : Byte)
  | staZp0 (z : Byte)
  | staAbs (w : Word)
  | staIzy (z : Byte)
  | staZpx (z : Byte)
  | staAby (w : Word)
  | staAbx (w : Word)
  | stxZp0 (z : Byte)
  | stxAbs (w : Word)
  | stxZpy (z : Byte)
  | styZp0 (z : Byte)
  | styAbs (w : Word)
  | styZpx (z : Byte)
  | tax
  | tay
  | txa
  | tya
  | tsx
  | txs
  | andIzx (z : Byte)
  | andZp0 (z : Byte)
  | andImm (v : Byte)
  | andAbs (w : Word)
  | andIzy (z : Byte)
  | andZpx (z : Byte)
  | andAby (w : Word)
  | andAbx (w : Word)
  | oraIzx (z : Byte)
  | oraZp0 (z : Byte)
  | oraImm (v : Byte)
  | oraAbs (w : Word)
  | oraIzy (z : Byte)
  | oraZpx (z : Byte)
  | oraAby (w : Word)
  | oraAbx (w : Word)
  | eorIzx (z : Byte)
  | eorZp0 (z : Byte)
  | eorImm (v : Byte)
  | eorAbs (w : Word)
  | eorIzy (z : Byte)
  | eorZpx (z : Byte)
  | eorAby (w : Word)
  | eorAbx (w : Word)
  | bitZp0 (z : Byte)
  | bitAbs (w : Word)
  | adcIzx (z : Byte)
  | adcZp0 (z : Byte)
  | adcImm (v : Byte)
  | adcAbs (w : Word)
  | adcIzy (z : Byte)
  | adcZpx (z : Byte)
  | adcAby (w : Word)
  | adcAbx (w : Word)
  | sbcIzx (z : Byte)
  | sbcZp0 (z : Byte)
  | sbcImm (v : Byte)
  | sbcAbs (w : Word)
  | sbcIzy (z : Byte)
  | sbcZpx (z : Byte)
  | sbcAby (w : Word)
  | sbcAbx (w : Word)
  | cmpIzx (z : Byte)
  | cmpZp0 (z : Byte)
  | cmpImm (v : Byte)
  | cmpAbs (w : Word)
  | cmpIzy (z : Byte)
  | cmpZpx (z : Byte)
  | cmpAby (w : Word)
  | cmpAbx (w : Word)
  | cpxImm (v : Byte)
  | cpxZp0 (z : Byte)
  | cpxAbs (w : Word)
  | cpyImm (v : Byte)
  | cpyZp0 (z : Byte)
  | cpyAbs (w : Word)
  | aslZp0 (z : Byte)
  | aslImp
  | aslAbs (w : Word)
  | aslZpx (z : Byte)
  | aslAbx (w : Word)
  | lsrZp0 (z : Byte)
  | lsrImp
  | lsrAbs (w : Word)
  | lsrZpx (z : Byte)
  | lsrAbx (w : Word)
  | rolZp0 (z : Byte)
  | rolImp
  | rolAbs (w : Word)
  | rolZpx (z : Byte)
  | rolAbx (w : Word)
  | rorZp0 (z : Byte)
  | rorImp
  | rorAbs (w : Word)
  | rorZpx (z : Byte)
  | rorAbx (w : Word)
  | incZp0 (z : Byte)
  | incAbs (w : Word)
  | incZpx (z : Byte)
  | incAbx (w : Word)
  | decZp0 (z : Byte)
  | decAbs (w : Word)
  | decZpx (z : Byte)
  | decAbx (w : Word)
  | inx
  | iny
  | dex
  | dey
  | bcc (d : Byte)
  | bcs (d : Byte)
  | beq (d : Byte)
  | bne (d : Byte)
  | bmi (d : Byte)
  | bpl (d : Byte)
  | bvc (d : Byte)
  | bvs (d : Byte)
  | jmpAbs (w : Word)
  | jmpInd (w : Word)
  | jsr (w : Word)
  | rts
  | pha
  | php
  | pla
  | plp
  | clc
  | cld
  | cli
  | clv
  | sec
  | sed
  | sei
  | brk
  | rti
  | nop04
  | nop0C
  | nop14
  | nop1A
  | nop1C
  | nop34
  | nop3A
  | nop3C
  | nop44
  | nop54
  | nop5A
  | nop5C
  | nop64
  | nop74
  | nop7A
  | nop7C
  | nop80
  | nop82
  | nop89
  | nop9C
  | nopC2
  | nopD4
  | nopDA
  | nopDC
  | nopE2
  | nop
  | nopF4
  | nopFA
  | nopFC
  | xxx02
  | xxx03
  | xxx07
  | xxx0B
  | xxx0F
  | xxx12
  | xxx13
  | xxx17
  | xxx1B
  | xxx1F
  | xxx22
  | xxx23
  | xxx27
  | xxx2B
  | xxx2F
  | xxx32
  | xxx33
  | xxx37
  | xxx3B
  | xxx3F
  | xxx42
  | xxx43
  | xxx47
  | xxx4B
  | xxx4F
  | xxx52
  | xxx53
  | xxx57
  | xxx5B
  | xxx5F
  | xxx62
  | xxx63
  | xxx67
  | xxx6B
  | xxx6F
  | xxx72
  | xxx73
  | xxx77
  | xxx7B
  | xxx7F
  | xxx83
  | xxx87
  | xxx8B
  | xxx8F
  | xxx92
  | xxx93
  | xxx97
  | xxx9B
  | xxx9E
  | xxx9F
  | xxxA3
  | xxxA7
  | xxxAB
  | xxxAF
  | xxxB2
  | xxxB3
  | xxxB7
  | xxxBB
  | xxxBF
  | xxxC3
  | xxxC7
  | xxxCB
  | xxxCF
  | xxxD2
  | xxxD3
  | xxxD7
  | xxxDB
  | xxxDF
  | xxxE3
  | xxxE7
  | xxxEB
  | xxxEF
  | xxxF2
  | xxxF3
  | xxxF7
  | xxxFB
  | xxxFF
  deriving DecidableEq, Repr

/-- The operation of an instruction (column `mnemonic` of the table). -/
def Instr.op : Instr → Op
  | .ldaIzx _ => .LDA
  | .ldaZp0 _ => .LDA
  | .ldaImm _ => .LDA
  | .ldaAbs _ => .LDA
  | .ldaIzy _ => .LDA
  | .ldaZpx _ => .LDA
  | .ldaAby _ => .LDA
  | .ldaAbx _ => .LDA
  | .ldxImm _ => .LDX
  | .ldxZp0 _ => .LDX
  | .ldxAbs _ => .LDX
  | .ldxZpy _ => .LDX
  | .ldxAby _ => .LDX
  | .ldyImm _ => .LDY
  | .ldyZp0 _ => .LDY
  | .ldyAbs _ => .LDY
  | .ldyZpx _ => .LDY
  | .ldyAbx _ => .LDY
  | .staIzx _ => .STA
  | .staZp0 _ => .STA
  | .staAbs _ => .STA
  | .staIzy _ => .STA
  | .staZpx _ => .STA
  | .staAby _ => .STA
  | .staAbx _ => .STA
  | .stxZp0 _ => .STX
  | .stxAbs _ => .STX
  | .stxZpy _ => .STX
  | .styZp0 _ => .STY
  | .styAbs _ => .STY
  | .styZpx _ => .STY
  | .tax => .TAX
  | .tay => .TAY
  | .txa => .TXA
  | .tya => .TYA
  | .tsx => .TSX
  | .txs => .TXS
  | .andIzx _ => .AND
  | .andZp0 _ => .AND
  | .andImm _ => .AND
  | .andAbs _ => .AND
  | .andIzy _ => .AND
  | .andZpx _ => .AND
  | .andAby _ => .AND
  | .andAbx _ => .AND
  | .oraIzx _ => .ORA
  | .oraZp0 _ => .ORA
  | .oraImm _ => .ORA
  | .oraAbs _ => .ORA
  | .oraIzy _ => .ORA
  | .oraZpx _ => .ORA
  | .oraAby _ => .ORA
  | .oraAbx _ => .ORA
  | .eorIzx _ => .EOR
  | .eorZp0 _ => .EOR
  | .eorImm _ => .EOR
  | .eorAbs _ => .EOR
  | .eorIzy _ => .EOR
  | .eorZpx _ => .EOR
  | .eorAby _ => .EOR
  | .eorAbx _ => .EOR
  | .bitZp0 _ => .BIT
  | .bitAbs _ => .BIT
  | .adcIzx _ => .ADC
  | .adcZp0 _ => .ADC
  | .adcImm _ => .ADC
  | .adcAbs _ => .ADC
  | .adcIzy _ => .ADC
  | .adcZpx _ => .ADC
  | .adcAby _ => .ADC
  | .adcAbx _ => .ADC
  | .sbcIzx _ => .SBC
  | .sbcZp0 _ => .SBC
  | .sbcImm _ => .SBC
  | .sbcAbs _ => .SBC
  | .sbcIzy _ => .SBC
  | .sbcZpx _ => .SBC
  | .sbcAby _ => .SBC
  | .sbcAbx _ => .SBC
  | .cmpIzx _ => .CMP
  | .cmpZp0 _ => .CMP
  | .cmpImm _ => .CMP
  | .cmpAbs _ => .CMP
  | .cmpIzy _ => .CMP
  | .cmpZpx _ => .CMP
  | .cmpAby _ => .CMP
  | .cmpAbx _ => .CMP
  | .cpxImm _ => .CPX
  | .cpxZp0 _ => .CPX
  | .cpxAbs _ => .CPX
  | .cpyImm _ => .CPY
  | .cpyZp0 _ => .CPY
  | .cpyAbs _ => .CPY
  | .aslZp0 _ => .ASL
  | .aslImp => .ASL
  | .aslAbs _ => .ASL
  | .aslZpx _ => .ASL
  | .aslAbx _ => .ASL
  | .lsrZp0 _ => .LSR
  | .lsrImp => .LSR
  | .lsrAbs _ => .LSR
  | .lsrZpx _ => .LSR
  | .lsrAbx _ => .LSR
  | .rolZp0 _ => .ROL
  | .rolImp => .ROL
  | .rolAbs _ => .ROL
  | .rolZpx _ => .ROL
  | .rolAbx _ => .ROL
  | .rorZp0 _ => .ROR
  | .rorImp => .ROR
  | .rorAbs _ => .ROR
  | .rorZpx _ => .ROR
  | .rorAbx _ => .ROR
  | .incZp0 _ => .INC
  | .incAbs _ => .INC
  | .incZpx _ => .INC
  | .incAbx _ => .INC
  | .decZp0 _ => .DEC
  | .decAbs _ => .DEC
  | .decZpx _ => .DEC
  | .decAbx _ => .DEC
  | .inx => .INX
  | .iny => .INY
  | .dex => .DEX
  | .dey => .DEY
  | .bcc _ => .BCC
  | .bcs _ => .BCS
  | .beq _ => .BEQ
  | .bne _ => .BNE
  | .bmi _ => .BMI
  | .bpl _ => .BPL
  | .bvc _ => .BVC
  | .bvs _ => .BVS
  | .jmpAbs _ => .JMP
  | .jmpInd _ => .JMP
  | .jsr _ => .JSR
  | .rts => .RTS
  | .pha => .PHA
  | .php => .PHP
  | .pla => .PLA
  | .plp => .PLP
  | .clc => .CLC
  | .cld => .CLD
  | .cli => .CLI
  | .clv => .CLV
  | .sec => .SEC
  | .sed => .SED
  | .sei => .SEI
  | .brk => .BRK
  | .rti => .RTI
  | .nop04 => .NOP
  | .nop0C => .NOP
  | .nop14 => .NOP
  | .nop1A => .NOP
  | .nop1C => .NOP
  | .nop34 => .NOP
  | .nop3A => .NOP
  | .nop3C => .NOP
  | .nop44 => .NOP
  | .nop54 => .NOP
  | .nop5A => .NOP
  | .nop5C => .NOP
  | .nop64 => .NOP
  | .nop74 => .NOP
  | .nop7A => .NOP
  | .nop7C => .NOP
  | .nop80 => .NOP
  | .nop82 => .NOP
  | .nop89 => .NOP
  | .nop9C => .NOP
  | .nopC2 => .NOP
  | .nopD4 => .NOP
  | .nopDA => .NOP
  | .nopDC => .NOP
  | .nopE2 => .NOP
  | .nop => .NOP
  | .nopF4 => .NOP
  | .nopFA => .NOP
  | .nopFC => .NOP
  | .xxx02 => .XXX
  | .xxx03 => .XXX
  | .xxx07 => .XXX
  | .xxx0B => .XXX
  | .xxx0F => .XXX
  | .xxx12 => .XXX
  | .xxx13 => .XXX
  | .xxx17 => .XXX
  | .xxx1B => .XXX
  | .xxx1F => .XXX
  | .xxx22 => .XXX
  | .xxx23 => .XXX
  | .xxx27 => .XXX
  | .xxx2B => .XXX
  | .xxx2F => .XXX
  | .xxx32 => .XXX
  | .xxx33 => .XXX
  | .xxx37 => .XXX
  | .xxx3B => .XXX
  | .xxx3F => .XXX
  | .xxx42 => .XXX
  | .xxx43 => .XXX
  | .xxx47 => .XXX
  | .xxx4B => .XXX
  | .xxx4F => .XXX
  | .xxx52 => .XXX
  | .xxx53 => .XXX
  | .xxx57 => .XXX
  | .xxx5B => .XXX
  | .xxx5F => .XXX
  | .xxx62 => .XXX
  | .xxx63 => .XXX
  | .xxx67 => .XXX
  | .xxx6B => .XXX
  | .xxx6F => .XXX
  | .xxx72 => .XXX
  | .xxx73 => .XXX
  | .xxx77 => .XXX
  | .xxx7B => .XXX
  | .xxx7F => .XXX
  | .xxx83 => .XXX
  | .xxx87 => .XXX
  | .xxx8B => .XXX
  | .xxx8F => .XXX
  | .xxx92 => .XXX
  | .xxx93 => .XXX
  | .xxx97 => .XXX
  | .xxx9B => .XXX
  | .xxx9E => .XXX
  | .xxx9F => .XXX
  | .xxxA3 => .XXX
  | .xxxA7 => .XXX
  | .xxxAB => .XXX
  | .xxxAF => .XXX
  | .xxxB2 => .XXX
  | .xxxB3 => .XXX
  | .xxxB7 => .XXX
  | .xxxBB => .XXX
  | .xxxBF => .XXX
  | .xxxC3 => .XXX
  | .xxxC7 => .XXX
  | .xxxCB => .XXX
  | .xxxCF => .XXX
  | .xxxD2 => .XXX
  | .xxxD3 => .XXX
  | .xxxD7 => .XXX
  | .xxxDB => .XXX
  | .xxxDF => .XXX
  | .xxxE3 => .XXX
  | .xxxE7 => .XXX
  | .xxxEB => .XXX
  | .xxxEF => .XXX
  | .xxxF2 => .XXX
  | .xxxF3 => .XXX
  | .xxxF7 => .XXX
  | .xxxFB => .XXX
  | .xxxFF => .XXX

/-- The addressing mode of an instruction with its operand (column `mode` of the table). -/
def Instr.mode : Instr → Mode
  | .ldaIzx z => .izx z
  | .ldaZp0 z => .zp0 z
  | .ldaImm v => .imm v
  | .ldaAbs w => .abs w
  | .ldaIzy z => .izy z
  | .ldaZpx z => .zpx z
  | .ldaAby w => .aby w
  | .ldaAbx w => .abx w
  | .ldxImm v => .imm v
  | .ldxZp0 z => .zp0 z
  | .ldxAbs w => .abs w
  | .ldxZpy z => .zpy z
  | .ldxAby w => .aby w
  | .ldyImm v => .imm v
  | .ldyZp0 z => .zp0 z
  | .ldyAbs w => .abs w
  | .ldyZpx z => .zpx z
  | .ldyAbx w => .abx w
  | .staIzx z => .izx z
  | .staZp0 z => .zp0 z
  | .staAbs w => .abs w
  | .staIzy z => .izy z
  | .staZpx z => .zpx z
  | .staAby w => .aby w
  | .staAbx w => .abx w
  | .stxZp0 z => .zp0 z
  | .stxAbs w => .abs w
  | .stxZpy z => .zpy z
  | .styZp0 z => .zp0 z
  | .styAbs w => .abs w
  | .styZpx z => .zpx z
  | .tax => .imp
  | .tay => .imp
  | .txa => .imp
  | .tya => .imp
  | .tsx => .imp
  | .txs => .imp
  | .andIzx z => .izx z
  | .andZp0 z => .zp0 z
  | .andImm v => .imm v
  | .andAbs w => .abs w
  | .andIzy z => .izy z
  | .andZpx z => .zpx z
  | .andAby w => .aby w
  | .andAbx w => .abx w
  | .oraIzx z => .izx z
  | .oraZp0 z => .zp0 z
  | .oraImm v => .imm v
  | .oraAbs w => .abs w
  | .oraIzy z => .izy z
  | .oraZpx z => .zpx z
  | .oraAby w => .aby w
  | .oraAbx w => .abx w
  | .eorIzx z => .izx z
  | .eorZp0 z => .zp0 z
  | .eorImm v => .imm v
  | .eorAbs w => .abs w
  | .eorIzy z => .izy z
  | .eorZpx z => .zpx z
  | .eorAby w => .aby w
  | .eorAbx w => .abx w
  | .bitZp0 z => .zp0 z
  | .bitAbs w => .abs w
  | .adcIzx z => .izx z
  | .adcZp0 z => .zp0 z
  | .adcImm v => .imm v
  | .adcAbs w => .abs w
  | .adcIzy z => .izy z
  | .adcZpx z => .zpx z
  | .adcAby w => .aby w
  | .adcAbx w => .abx w
  | .sbcIzx z => .izx z
  | .sbcZp0 z => .zp0 z
  | .sbcImm v => .imm v
  | .sbcAbs w => .abs w
  | .sbcIzy z => .izy z
  | .sbcZpx z => .zpx z
  | .sbcAby w => .aby w
  | .sbcAbx w => .abx w
  | .cmpIzx z => .izx z
  | .cmpZp0 z => .zp0 z
  | .cmpImm v => .imm v
  | .cmpAbs w => .abs w
  | .cmpIzy z => .izy z
  | .cmpZpx z => .zpx z
  | .cmpAby w => .aby w
  | .cmpAbx w => .abx w
  | .cpxImm v => .imm v
  | .cpxZp0 z => .zp0 z
  | .cpxAbs w => .abs w
  | .cpyImm v => .imm v
  | .cpyZp0 z => .zp0 z
  | .cpyAbs w => .abs w
  | .aslZp0 z => .zp0 z
  | .aslImp => .imp
  | .aslAbs w => .abs w
  | .aslZpx z => .zpx z
  | .aslAbx w => .abx w
  | .lsrZp0 z => .zp0 z
  | .lsrImp => .imp
  | .lsrAbs w => .abs w
  | .lsrZpx z => .zpx z
  | .lsrAbx w => .abx w
  | .rolZp0 z => .zp0 z
  | .rolImp => .imp
  | .rolAbs w => .abs w
  | .rolZpx z => .zpx z
  | .rolAbx w => .abx w
  | .rorZp0 z => .zp0 z
  | .rorImp => .imp
  | .rorAbs w => .abs w
  | .rorZpx z => .zpx z
  | .rorAbx w => .abx w
  | .incZp0 z => .zp0 z
  | .incAbs w => .abs w
  | .incZpx z => .zpx z
  | .incAbx w => .abx w
  | .decZp0 z => .zp0 z
  | .decAbs w => .abs w
  | .decZpx z => .zpx z
  | .decAbx w => .abx w
  | .inx => .imp
  | .iny => .imp
  | .dex => .imp
  | .dey => .imp
  | .bcc d => .rel d
  | .bcs d => .rel d
  | .beq d => .rel d
  | .bne d => .rel d
  | .bmi d => .rel d
  | .bpl d => .rel d
  | .bvc d => .rel d
  | .bvs d => .rel d
  | .jmpAbs w => .abs w
  | .jmpInd w => .ind w
  | .jsr w => .abs w
  | .rts => .imp
  | .pha => .imp
  | .php => .imp
  | .pla => .imp
  | .plp => .imp
  | .clc => .imp
  | .cld => .imp
  | .cli => .imp
  | .clv => .imp
  | .sec => .imp
  | .sed => .imp
  | .sei => .imp
  | .brk => .imp
  | .rti => .imp
  | .nop04 => .imp
  | .nop0C => .imp
  | .nop14 => .imp
  | .nop1A => .imp
  | .nop1C => .imp
  | .nop34 => .imp
  | .nop3A => .imp
  | .nop3C => .imp
  | .nop44 => .imp
  | .nop54 => .imp
  | .nop5A => .imp
  | .nop5C => .imp
  | .nop64 => .imp
  | .nop74 => .imp
  | .nop7A => .imp
  | .nop7C => .imp
  | .nop80 => .imp
  | .nop82 => .imp
  | .nop89 => .imp
  | .nop9C => .imp
  | .nopC2 => .imp
  | .nopD4 => .imp
  | .nopDA => .imp
  | .nopDC => .imp
  | .nopE2 => .imp
  | .nop => .imp
  | .nopF4 => .imp
  | .nopFA => .imp
  | .nopFC => .imp
  | .xxx02 => .imp
  | .xxx03 => .imp
  | .xxx07 => .imp
  | .xxx0B => .imp
  | .xxx0F => .imp
  | .xxx12 => .imp
  | .xxx13 => .imp
  | .xxx17 => .imp
  | .xxx1B => .imp
  | .xxx1F => .imp
  | .xxx22 => .imp
  | .xxx23 => .imp
  | .xxx27 => .imp
  | .xxx2B => .imp
  | .xxx2F => .imp
  | .xxx32 => .imp
  | .xxx33 => .imp
  | .xxx37 => .imp
  | .xxx3B => .imp
  | .xxx3F => .imp
  | .xxx42 => .imp
  | .xxx43 => .imp
  | .xxx47 => .imp
  | .xxx4B => .imp
  | .xxx4F => .imp
  | .xxx52 => .imp
  | .xxx53 => .imp
  | .xxx57 => .imp
  | .xxx5B => .imp
  | .xxx5F => .imp
  | .xxx62 => .imp
  | .xxx63 => .imp
  | .xxx67 => .imp
  | .xxx6B => .imp
  | .xxx6F => .imp
  | .xxx72 => .imp
  | .xxx73 => .imp
  | .xxx77 => .imp
  | .xxx7B => .imp
  | .xxx7F => .imp
  | .xxx83 => .imp
  | .xxx87 => .imp
  | .xxx8B => .imp
  | .xxx8F => .imp
  | .xxx92 => .imp
  | .xxx93 => .imp
  | .xxx97 => .imp
  | .xxx9B => .imp
  | .xxx9E => .imp
  | .xxx9F => .imp
  | .xxxA3 => .imp
  | .xxxA7 => .imp
  | .xxxAB => .imp
  | .xxxAF => .imp
  | .xxxB2 => .imp
  | .xxxB3 => .imp
  | .xxxB7 => .imp
  | .xxxBB => .imp
  | .xxxBF => .imp
  | .xxxC3 => .imp
  | .xxxC7 => .imp
  | .xxxCB => .imp
  | .xxxCF => .imp
  | .xxxD2 => .imp
  | .xxxD3 => .imp
  | .xxxD7 => .imp
  | .xxxDB => .imp
  | .xxxDF => .imp
  | .xxxE3 => .imp
  | .xxxE7 => .imp
  | .xxxEB => .imp
  | .xxxEF => .imp
  | .xxxF2 => .imp
  | .xxxF3 => .imp
  | .xxxF7 => .imp
  | .xxxFB => .imp
  | .xxxFF => .imp

/-- Length in bytes: the opcode byte and the operand bytes of the mode (30_encoding.md R90, R91). -/
def Instr.length (i : Instr) : Nat := 1 + i.mode.kind.operandBytes

/-- The mnemonic, a display string (30_encoding.md R94). -/
def Op.mnemonic : Op → String
  | .LDA => "LDA"
  | .LDX => "LDX"
  | .LDY => "LDY"
  | .STA => "STA"
  | .STX => "STX"
  | .STY => "STY"
  | .TAX => "TAX"
  | .TAY => "TAY"
  | .TXA => "TXA"
  | .TYA => "TYA"
  | .TSX => "TSX"
  | .TXS => "TXS"
  | .AND => "AND"
  | .ORA => "ORA"
  | .EOR => "EOR"
  | .BIT => "BIT"
  | .ADC => "ADC"
  | .SBC => "SBC"
  | .CMP => "CMP"
  | .CPX => "CPX"
  | .CPY => "CPY"
  | .ASL => "ASL"
  | .LSR => "LSR"
  | .ROL => "ROL"
  | .ROR => "ROR"
  | .INC => "INC"
  | .DEC => "DEC"
  | .INX => "INX"
  | .INY => "INY"
  | .DEX => "DEX"
  | .DEY => "DEY"
  | .BCC => "BCC"
  | .BCS => "BCS"
  | .BEQ => "BEQ"
  | .BNE => "BNE"
  | .BMI => "BMI"
  | .BPL => "BPL"
  | .BVC => "BVC"
  | .BVS => "BVS"
  | .JMP => "JMP"
  | .JSR => "JSR"
  | .RTS => "RTS"
  | .PHA => "PHA"
  | .PHP => "PHP"
  | .PLA => "PLA"
  | .PLP => "PLP"
  | .CLC => "CLC"
  | .CLD => "CLD"
  | .CLI => "CLI"
  | .CLV => "CLV"
  | .SEC => "SEC"
  | .SED => "SED"
  | .SEI => "SEI"
  | .BRK => "BRK"
  | .RTI => "RTI"
  | .NOP => "NOP"
  | .XXX => "XXX"

end Sys2Proof
end

