-- ==== Sys2Proof/WellFormed.lean ====
section
/-! DEFINITION. What a well-formed instruction and a well-formed configuration are. An instruction is well formed when
its operation has its addressing mode in the by-operation table of 30_encoding.md R96 (the undocumented NOP and `XXX`
slots: IMP only, R97). `Instr` has a constructor for each table row and its operands have the width of their bytes, so
every term of `Instr` passes; the check can refuse only a pair of operation and mode that no row has. A configuration
is well formed when no base cycle count is 0 (92_eei_decisions.md D6 refuses the others) and the three entry lengths are
the fixed ones (00_scope.md R5). -/

namespace Sys2Proof

/-- The addressing modes the opcode table has for an operation (30_encoding.md R96, second table, and R97). -/
def Op.modes : Op → List ModeKind
  | .LDA | .AND | .ORA | .EOR | .ADC | .SBC | .CMP => [.IZX, .ZP0, .IMM, .ABS, .IZY, .ZPX, .ABY, .ABX]
  | .LDX => [.IMM, .ZP0, .ABS, .ZPY, .ABY]
  | .LDY => [.IMM, .ZP0, .ABS, .ZPX, .ABX]
  | .STA => [.IZX, .ZP0, .ABS, .IZY, .ZPX, .ABY, .ABX]
  | .STX => [.ZP0, .ABS, .ZPY]
  | .STY => [.ZP0, .ABS, .ZPX]
  | .TAX | .TAY | .TXA | .TYA | .TSX | .TXS | .INX | .INY | .DEX | .DEY | .RTS | .PHA | .PHP | .PLA | .PLP | .CLC | .CLD | .CLI | .CLV | .SEC | .SED | .SEI | .BRK | .RTI | .NOP | .XXX => [.IMP]
  | .BIT => [.ZP0, .ABS]
  | .CPX | .CPY => [.IMM, .ZP0, .ABS]
  | .ASL | .LSR | .ROL | .ROR => [.ZP0, .IMP, .ABS, .ZPX, .ABX]
  | .INC | .DEC => [.ZP0, .ABS, .ZPX, .ABX]
  | .BCC | .BCS | .BEQ | .BNE | .BMI | .BPL | .BVC | .BVS => [.REL]
  | .JMP => [.ABS, .IND]
  | .JSR => [.ABS]

def Op.allows (o : Op) (k : ModeKind) : Bool := o.modes.contains k

def Instr.wellFormed (i : Instr) : Bool := i.op.allows i.mode.kind

/-- Every base cycle count is at least 1 (00_scope.md R5, 92_eei_decisions.md D6), and the entries take 8, 7 and 8 events
(R5). -/
abbrev Config.wellFormed (c : Config) : Prop :=
  (∀ opc : Byte, 1 ≤ c.baseCycles opc) ∧ c.resetCycles = 8 ∧ c.irqCycles = 7 ∧ c.nmiCycles = 8

end Sys2Proof
end

