-- ==== Sys2Proof/Decode.lean ====
section
/-! DEFINITION. The opcode decoder (30_encoding.md): how operand bytes make a word, the opcode matrix of R96 with the
undocumented slots of R97, decoding of any byte string, the encoder, and the default `CFG`. No encoding is illegal
(R95, R98); the one thing a byte string can lack is bytes, and `DecodeError` names that. -/

namespace Sys2Proof

/-! Word and byte helpers (00_scope.md R7). -/

/-- `hi(w) = w[15:8]`. -/
def hi (w : Word) : Byte := w.extractLsb' 8 8

/-- `lo(w) = w[7:0]`. -/
def lo (w : Word) : Byte := w.extractLsb' 0 8

/-- `{h, l} = h * 256 + l`. -/
def word (h l : Byte) : Word := BitVec.ofNat 16 (h.toNat * 256 + l.toNat)

/-- `zext_16(b)`. -/
def zext16 (b : Byte) : Word := b.setWidth 16

/-- `sext_16(b)`: high byte 0xFF when bit 7 of `b` is 1, else 0x00. -/
def sext16 (b : Byte) : Word := b.signExtend 16

/-! The opcode matrix. -/

/-- What byte 0 says of an instruction: the format of 30_encoding.md R90 with the constructor that takes the operand
bytes, and the base cycle count. -/
inductive Row where
  | f1 (i : Instr) (base : Nat)
  | f2 (mk : Byte → Instr) (base : Nat)
  | f3 (mk : Word → Instr) (base : Nat)

def Row.base : Row → Nat
  | .f1 _ n | .f2 _ n | .f3 _ n => n

def row0 : List Row :=
  [.f1 .brk 7, .f2 .oraIzx 6, .f1 .xxx02 2, .f1 .xxx03 8, .f1 .nop04 3, .f2 .oraZp0 3, .f2 .aslZp0 5, .f1 .xxx07 5,
   .f1 .php 3, .f2 .oraImm 2, .f1 .aslImp 2, .f1 .xxx0B 2, .f1 .nop0C 4, .f3 .oraAbs 4, .f3 .aslAbs 6, .f1 .xxx0F 6]

def row1 : List Row :=
  [.f2 .bpl 2, .f2 .oraIzy 5, .f1 .xxx12 2, .f1 .xxx13 8, .f1 .nop14 4, .f2 .oraZpx 4, .f2 .aslZpx 6, .f1 .xxx17 6,
   .f1 .clc 2, .f3 .oraAby 4, .f1 .nop1A 2, .f1 .xxx1B 7, .f1 .nop1C 4, .f3 .oraAbx 4, .f3 .aslAbx 7, .f1 .xxx1F 7]

def row2 : List Row :=
  [.f3 .jsr 6, .f2 .andIzx 6, .f1 .xxx22 2, .f1 .xxx23 8, .f2 .bitZp0 3, .f2 .andZp0 3, .f2 .rolZp0 5, .f1 .xxx27 5,
   .f1 .plp 4, .f2 .andImm 2, .f1 .rolImp 2, .f1 .xxx2B 2, .f3 .bitAbs 4, .f3 .andAbs 4, .f3 .rolAbs 6, .f1 .xxx2F 6]

def row3 : List Row :=
  [.f2 .bmi 2, .f2 .andIzy 5, .f1 .xxx32 2, .f1 .xxx33 8, .f1 .nop34 4, .f2 .andZpx 4, .f2 .rolZpx 6, .f1 .xxx37 6,
   .f1 .sec 2, .f3 .andAby 4, .f1 .nop3A 2, .f1 .xxx3B 7, .f1 .nop3C 4, .f3 .andAbx 4, .f3 .rolAbx 7, .f1 .xxx3F 7]

def row4 : List Row :=
  [.f1 .rti 6, .f2 .eorIzx 6, .f1 .xxx42 2, .f1 .xxx43 8, .f1 .nop44 3, .f2 .eorZp0 3, .f2 .lsrZp0 5, .f1 .xxx47 5,
   .f1 .pha 3, .f2 .eorImm 2, .f1 .lsrImp 2, .f1 .xxx4B 2, .f3 .jmpAbs 3, .f3 .eorAbs 4, .f3 .lsrAbs 6, .f1 .xxx4F 6]

def row5 : List Row :=
  [.f2 .bvc 2, .f2 .eorIzy 5, .f1 .xxx52 2, .f1 .xxx53 8, .f1 .nop54 4, .f2 .eorZpx 4, .f2 .lsrZpx 6, .f1 .xxx57 6,
   .f1 .cli 2, .f3 .eorAby 4, .f1 .nop5A 2, .f1 .xxx5B 7, .f1 .nop5C 4, .f3 .eorAbx 4, .f3 .lsrAbx 7, .f1 .xxx5F 7]

def row6 : List Row :=
  [.f1 .rts 6, .f2 .adcIzx 6, .f1 .xxx62 2, .f1 .xxx63 8, .f1 .nop64 3, .f2 .adcZp0 3, .f2 .rorZp0 5, .f1 .xxx67 5,
   .f1 .pla 4, .f2 .adcImm 2, .f1 .rorImp 2, .f1 .xxx6B 2, .f3 .jmpInd 5, .f3 .adcAbs 4, .f3 .rorAbs 6, .f1 .xxx6F 6]

def row7 : List Row :=
  [.f2 .bvs 2, .f2 .adcIzy 5, .f1 .xxx72 2, .f1 .xxx73 8, .f1 .nop74 4, .f2 .adcZpx 4, .f2 .rorZpx 6, .f1 .xxx77 6,
   .f1 .sei 2, .f3 .adcAby 4, .f1 .nop7A 2, .f1 .xxx7B 7, .f1 .nop7C 4, .f3 .adcAbx 4, .f3 .rorAbx 7, .f1 .xxx7F 7]

def row8 : List Row :=
  [.f1 .nop80 2, .f2 .staIzx 6, .f1 .nop82 2, .f1 .xxx83 6, .f2 .styZp0 3, .f2 .staZp0 3, .f2 .stxZp0 3, .f1 .xxx87 3,
   .f1 .dey 2, .f1 .nop89 2, .f1 .txa 2, .f1 .xxx8B 2, .f3 .styAbs 4, .f3 .staAbs 4, .f3 .stxAbs 4, .f1 .xxx8F 4]

def row9 : List Row :=
  [.f2 .bcc 2, .f2 .staIzy 6, .f1 .xxx92 2, .f1 .xxx93 6, .f2 .styZpx 4, .f2 .staZpx 4, .f2 .stxZpy 4, .f1 .xxx97 4,
   .f1 .tya 2, .f3 .staAby 5, .f1 .txs 2, .f1 .xxx9B 5, .f1 .nop9C 5, .f3 .staAbx 5, .f1 .xxx9E 5, .f1 .xxx9F 5]

def rowA : List Row :=
  [.f2 .ldyImm 2, .f2 .ldaIzx 6, .f2 .ldxImm 2, .f1 .xxxA3 6, .f2 .ldyZp0 3, .f2 .ldaZp0 3, .f2 .ldxZp0 3, .f1 .xxxA7 3,
   .f1 .tay 2, .f2 .ldaImm 2, .f1 .tax 2, .f1 .xxxAB 2, .f3 .ldyAbs 4, .f3 .ldaAbs 4, .f3 .ldxAbs 4, .f1 .xxxAF 4]

def rowB : List Row :=
  [.f2 .bcs 2, .f2 .ldaIzy 5, .f1 .xxxB2 2, .f1 .xxxB3 5, .f2 .ldyZpx 4, .f2 .ldaZpx 4, .f2 .ldxZpy 4, .f1 .xxxB7 4,
   .f1 .clv 2, .f3 .ldaAby 4, .f1 .tsx 2, .f1 .xxxBB 4, .f3 .ldyAbx 4, .f3 .ldaAbx 4, .f3 .ldxAby 4, .f1 .xxxBF 4]

def rowC : List Row :=
  [.f2 .cpyImm 2, .f2 .cmpIzx 6, .f1 .nopC2 2, .f1 .xxxC3 8, .f2 .cpyZp0 3, .f2 .cmpZp0 3, .f2 .decZp0 5, .f1 .xxxC7 5,
   .f1 .iny 2, .f2 .cmpImm 2, .f1 .dex 2, .f1 .xxxCB 2, .f3 .cpyAbs 4, .f3 .cmpAbs 4, .f3 .decAbs 6, .f1 .xxxCF 6]

def rowD : List Row :=
  [.f2 .bne 2, .f2 .cmpIzy 5, .f1 .xxxD2 2, .f1 .xxxD3 8, .f1 .nopD4 4, .f2 .cmpZpx 4, .f2 .decZpx 6, .f1 .xxxD7 6,
   .f1 .cld 2, .f3 .cmpAby 4, .f1 .nopDA 2, .f1 .xxxDB 7, .f1 .nopDC 4, .f3 .cmpAbx 4, .f3 .decAbx 7, .f1 .xxxDF 7]

def rowE : List Row :=
  [.f2 .cpxImm 2, .f2 .sbcIzx 6, .f1 .nopE2 2, .f1 .xxxE3 8, .f2 .cpxZp0 3, .f2 .sbcZp0 3, .f2 .incZp0 5, .f1 .xxxE7 5,
   .f1 .inx 2, .f2 .sbcImm 2, .f1 .nop 2, .f1 .xxxEB 2, .f3 .cpxAbs 4, .f3 .sbcAbs 4, .f3 .incAbs 6, .f1 .xxxEF 6]

def rowF : List Row :=
  [.f2 .beq 2, .f2 .sbcIzy 5, .f1 .xxxF2 2, .f1 .xxxF3 8, .f1 .nopF4 4, .f2 .sbcZpx 4, .f2 .incZpx 6, .f1 .xxxF7 6,
   .f1 .sed 2, .f3 .sbcAby 4, .f1 .nopFA 2, .f1 .xxxFB 7, .f1 .nopFC 4, .f3 .sbcAbx 4, .f3 .incAbx 7, .f1 .xxxFF 7]

/-- The matrix of 30_encoding.md R96: row = high nibble, column = low nibble of the opcode byte. -/
def matrix : List (List Row) :=
  [row0, row1, row2, row3, row4, row5, row6, row7] ++ [row8, row9, rowA, rowB, rowC, rowD, rowE, rowF]

/-- The matrix cell of an opcode byte. Each of the 256 bytes has one (`Laws.matrixEntry_isSome`). -/
def matrixEntry (opc : Byte) : Option Row :=
  matrix[opc.toNat / 16]?.bind fun r => r[opc.toNat % 16]?

/-- The table entry of an opcode byte. The table is total (30_encoding.md R95): the catch-all that stands for a missing
cell (R98) is never used, since no cell is missing. -/
def rowOf (opc : Byte) : Row := (matrixEntry opc).getD (.f1 .xxx02 2)

/-! Decoding. -/

/-- Why a byte string is no instruction: too few bytes. No opcode byte is illegal (30_encoding.md R98). -/
inductive DecodeError where
  /-- There is no byte at all. -/
  | noOpcode
  /-- The opcode byte needs more operand bytes than follow it. -/
  | missingOperand (opc : Byte)
  deriving DecidableEq, Repr

/-- Decoding of the first instruction of a byte string, with the bytes after it (30_encoding.md R90, R91, R95). -/
def decode : List Byte → Except DecodeError (Instr × List Byte)
  | [] => .error .noOpcode
  | opc :: bs =>
    match rowOf opc with
    | .f1 i _ => .ok (i, bs)
    | .f2 mk _ =>
      match bs with
      | b :: rest => .ok (mk b, rest)
      | [] => .error (.missingOperand opc)
    | .f3 mk _ =>
      match bs with
      | l :: h :: rest => .ok (mk (word h l), rest)
      | _ => .error (.missingOperand opc)

/-! Encoding, written from the by-operation table of 30_encoding.md R96 and the list of R97. -/

/-- Byte 0 of an instruction. -/
def Instr.opcode : Instr → Byte
  | .ldaIzx _ => 0xA1
  | .ldaZp0 _ => 0xA5
  | .ldaImm _ => 0xA9
  | .ldaAbs _ => 0xAD
  | .ldaIzy _ => 0xB1
  | .ldaZpx _ => 0xB5
  | .ldaAby _ => 0xB9
  | .ldaAbx _ => 0xBD
  | .ldxImm _ => 0xA2
  | .ldxZp0 _ => 0xA6
  | .ldxAbs _ => 0xAE
  | .ldxZpy _ => 0xB6
  | .ldxAby _ => 0xBE
  | .ldyImm _ => 0xA0
  | .ldyZp0 _ => 0xA4
  | .ldyAbs _ => 0xAC
  | .ldyZpx _ => 0xB4
  | .ldyAbx _ => 0xBC
  | .staIzx _ => 0x81
  | .staZp0 _ => 0x85
  | .staAbs _ => 0x8D
  | .staIzy _ => 0x91
  | .staZpx _ => 0x95
  | .staAby _ => 0x99
  | .staAbx _ => 0x9D
  | .stxZp0 _ => 0x86
  | .stxAbs _ => 0x8E
  | .stxZpy _ => 0x96
  | .styZp0 _ => 0x84
  | .styAbs _ => 0x8C
  | .styZpx _ => 0x94
  | .tax => 0xAA
  | .tay => 0xA8
  | .txa => 0x8A
  | .tya => 0x98
  | .tsx => 0xBA
  | .txs => 0x9A
  | .andIzx _ => 0x21
  | .andZp0 _ => 0x25
  | .andImm _ => 0x29
  | .andAbs _ => 0x2D
  | .andIzy _ => 0x31
  | .andZpx _ => 0x35
  | .andAby _ => 0x39
  | .andAbx _ => 0x3D
  | .oraIzx _ => 0x01
  | .oraZp0 _ => 0x05
  | .oraImm _ => 0x09
  | .oraAbs _ => 0x0D
  | .oraIzy _ => 0x11
  | .oraZpx _ => 0x15
  | .oraAby _ => 0x19
  | .oraAbx _ => 0x1D
  | .eorIzx _ => 0x41
  | .eorZp0 _ => 0x45
  | .eorImm _ => 0x49
  | .eorAbs _ => 0x4D
  | .eorIzy _ => 0x51
  | .eorZpx _ => 0x55
  | .eorAby _ => 0x59
  | .eorAbx _ => 0x5D
  | .bitZp0 _ => 0x24
  | .bitAbs _ => 0x2C
  | .adcIzx _ => 0x61
  | .adcZp0 _ => 0x65
  | .adcImm _ => 0x69
  | .adcAbs _ => 0x6D
  | .adcIzy _ => 0x71
  | .adcZpx _ => 0x75
  | .adcAby _ => 0x79
  | .adcAbx _ => 0x7D
  | .sbcIzx _ => 0xE1
  | .sbcZp0 _ => 0xE5
  | .sbcImm _ => 0xE9
  | .sbcAbs _ => 0xED
  | .sbcIzy _ => 0xF1
  | .sbcZpx _ => 0xF5
  | .sbcAby _ => 0xF9
  | .sbcAbx _ => 0xFD
  | .cmpIzx _ => 0xC1
  | .cmpZp0 _ => 0xC5
  | .cmpImm _ => 0xC9
  | .cmpAbs _ => 0xCD
  | .cmpIzy _ => 0xD1
  | .cmpZpx _ => 0xD5
  | .cmpAby _ => 0xD9
  | .cmpAbx _ => 0xDD
  | .cpxImm _ => 0xE0
  | .cpxZp0 _ => 0xE4
  | .cpxAbs _ => 0xEC
  | .cpyImm _ => 0xC0
  | .cpyZp0 _ => 0xC4
  | .cpyAbs _ => 0xCC
  | .aslZp0 _ => 0x06
  | .aslImp => 0x0A
  | .aslAbs _ => 0x0E
  | .aslZpx _ => 0x16
  | .aslAbx _ => 0x1E
  | .lsrZp0 _ => 0x46
  | .lsrImp => 0x4A
  | .lsrAbs _ => 0x4E
  | .lsrZpx _ => 0x56
  | .lsrAbx _ => 0x5E
  | .rolZp0 _ => 0x26
  | .rolImp => 0x2A
  | .rolAbs _ => 0x2E
  | .rolZpx _ => 0x36
  | .rolAbx _ => 0x3E
  | .rorZp0 _ => 0x66
  | .rorImp => 0x6A
  | .rorAbs _ => 0x6E
  | .rorZpx _ => 0x76
  | .rorAbx _ => 0x7E
  | .incZp0 _ => 0xE6
  | .incAbs _ => 0xEE
  | .incZpx _ => 0xF6
  | .incAbx _ => 0xFE
  | .decZp0 _ => 0xC6
  | .decAbs _ => 0xCE
  | .decZpx _ => 0xD6
  | .decAbx _ => 0xDE
  | .inx => 0xE8
  | .iny => 0xC8
  | .dex => 0xCA
  | .dey => 0x88
  | .bcc _ => 0x90
  | .bcs _ => 0xB0
  | .beq _ => 0xF0
  | .bne _ => 0xD0
  | .bmi _ => 0x30
  | .bpl _ => 0x10
  | .bvc _ => 0x50
  | .bvs _ => 0x70
  | .jmpAbs _ => 0x4C
  | .jmpInd _ => 0x6C
  | .jsr _ => 0x20
  | .rts => 0x60
  | .pha => 0x48
  | .php => 0x08
  | .pla => 0x68
  | .plp => 0x28
  | .clc => 0x18
  | .cld => 0xD8
  | .cli => 0x58
  | .clv => 0xB8
  | .sec => 0x38
  | .sed => 0xF8
  | .sei => 0x78
  | .brk => 0x00
  | .rti => 0x40
  | .nop04 => 0x04
  | .nop0C => 0x0C
  | .nop14 => 0x14
  | .nop1A => 0x1A
  | .nop1C => 0x1C
  | .nop34 => 0x34
  | .nop3A => 0x3A
  | .nop3C => 0x3C
  | .nop44 => 0x44
  | .nop54 => 0x54
  | .nop5A => 0x5A
  | .nop5C => 0x5C
  | .nop64 => 0x64
  | .nop74 => 0x74
  | .nop7A => 0x7A
  | .nop7C => 0x7C
  | .nop80 => 0x80
  | .nop82 => 0x82
  | .nop89 => 0x89
  | .nop9C => 0x9C
  | .nopC2 => 0xC2
  | .nopD4 => 0xD4
  | .nopDA => 0xDA
  | .nopDC => 0xDC
  | .nopE2 => 0xE2
  | .nop => 0xEA
  | .nopF4 => 0xF4
  | .nopFA => 0xFA
  | .nopFC => 0xFC
  | .xxx02 => 0x02
  | .xxx03 => 0x03
  | .xxx07 => 0x07
  | .xxx0B => 0x0B
  | .xxx0F => 0x0F
  | .xxx12 => 0x12
  | .xxx13 => 0x13
  | .xxx17 => 0x17
  | .xxx1B => 0x1B
  | .xxx1F => 0x1F
  | .xxx22 => 0x22
  | .xxx23 => 0x23
  | .xxx27 => 0x27
  | .xxx2B => 0x2B
  | .xxx2F => 0x2F
  | .xxx32 => 0x32
  | .xxx33 => 0x33
  | .xxx37 => 0x37
  | .xxx3B => 0x3B
  | .xxx3F => 0x3F
  | .xxx42 => 0x42
  | .xxx43 => 0x43
  | .xxx47 => 0x47
  | .xxx4B => 0x4B
  | .xxx4F => 0x4F
  | .xxx52 => 0x52
  | .xxx53 => 0x53
  | .xxx57 => 0x57
  | .xxx5B => 0x5B
  | .xxx5F => 0x5F
  | .xxx62 => 0x62
  | .xxx63 => 0x63
  | .xxx67 => 0x67
  | .xxx6B => 0x6B
  | .xxx6F => 0x6F
  | .xxx72 => 0x72
  | .xxx73 => 0x73
  | .xxx77 => 0x77
  | .xxx7B => 0x7B
  | .xxx7F => 0x7F
  | .xxx83 => 0x83
  | .xxx87 => 0x87
  | .xxx8B => 0x8B
  | .xxx8F => 0x8F
  | .xxx92 => 0x92
  | .xxx93 => 0x93
  | .xxx97 => 0x97
  | .xxx9B => 0x9B
  | .xxx9E => 0x9E
  | .xxx9F => 0x9F
  | .xxxA3 => 0xA3
  | .xxxA7 => 0xA7
  | .xxxAB => 0xAB
  | .xxxAF => 0xAF
  | .xxxB2 => 0xB2
  | .xxxB3 => 0xB3
  | .xxxB7 => 0xB7
  | .xxxBB => 0xBB
  | .xxxBF => 0xBF
  | .xxxC3 => 0xC3
  | .xxxC7 => 0xC7
  | .xxxCB => 0xCB
  | .xxxCF => 0xCF
  | .xxxD2 => 0xD2
  | .xxxD3 => 0xD3
  | .xxxD7 => 0xD7
  | .xxxDB => 0xDB
  | .xxxDF => 0xDF
  | .xxxE3 => 0xE3
  | .xxxE7 => 0xE7
  | .xxxEB => 0xEB
  | .xxxEF => 0xEF
  | .xxxF2 => 0xF2
  | .xxxF3 => 0xF3
  | .xxxF7 => 0xF7
  | .xxxFB => 0xFB
  | .xxxFF => 0xFF

/-- Bytes 1 and 2 of an instruction (30_encoding.md R90, R92): the low byte of a two-byte operand comes first. -/
def Mode.bytes : Mode → List Byte
  | .imp => []
  | .imm b | .zp0 b | .zpx b | .zpy b | .rel b | .izx b | .izy b => [b]
  | .abs w | .abx w | .aby w | .ind w => [lo w, hi w]

/-- The bytes of an instruction, byte 0 first. -/
def encode (i : Instr) : List Byte := i.opcode :: i.mode.bytes

/-! The host's view of the decoder: an instruction's bytes as one number, byte 0 in bits 7 to 0. -/

/-- The bytes of a table word: `n` of them, byte `k` from bits `8k+7` to `8k`, every bit from `nbits` up being 0. -/
def tableBytes (nbits w n : Nat) : List Byte :=
  (List.range n).map fun k => BitVec.ofNat 8 ((w % 2 ^ nbits) / 256 ^ k)

/-- Bytes of the longest instruction (30_encoding.md R90). -/
def longest : Nat := 3

def decodeTableWord (nbits w : Nat) : Option Instr :=
  match decode (tableBytes nbits w longest) with
  | .ok (i, _) => some i
  | .error _ => none

/-! The configuration of the undocumented slots, and the default configuration. -/

/-- The opcode byte has a cell of its own in the documented part of the matrix (30_encoding.md R96); the other 105 bytes
are the undocumented slots of R97. -/
def Instr.documented (i : Instr) : Bool := i.op != .XXX && (i.op != .NOP || i.opcode == 0xEA)

def UndocOp.op : UndocOp → Op
  | .NOP => .NOP
  | .XXX => .XXX

/-- The operation an instruction dispatches to under a configuration (00_scope.md R5; 93_implementation_defined.md U19):
its row's when it is documented, else what `CFG.undoc_op` says of its opcode byte. -/
def Instr.opUnder (c : Config) (i : Instr) : Op := if i.documented then i.op else (c.undocOp i.opcode).op

/-- The undocumented bytes that dispatch to NOP by default (30_encoding.md R97, the list of 28). -/
def defaultNops : List Byte :=
  [0x04, 0x0C, 0x14, 0x1A, 0x1C, 0x34, 0x3A, 0x3C, 0x44, 0x54, 0x5A, 0x5C, 0x64, 0x74] ++
  [0x7A, 0x7C, 0x80, 0x82, 0x89, 0x9C, 0xC2, 0xD4, 0xDA, 0xDC, 0xE2, 0xF4, 0xFA, 0xFC]

/-- The default `CFG` (00_scope.md R5): the base cycle counts of the matrix (R96, R97), the split of R97, the six bytes of
R99, and the entry lengths 8, 7, 8 of 60_exceptions.md R263, R264 and 70_reset_and_hazards.md R300. The counts, the split
and the six bytes are PRESUMED: the spec takes them from general knowledge (log 5). -/
def cfg : Config where
  baseCycles opc := (rowOf opc).base
  undocOp opc := if defaultNops.contains opc then .NOP else .XXX
  nopExtra := [0x1C, 0x3C, 0x5C, 0x7C, 0xDC, 0xFC]
  resetCycles := 8
  irqCycles := 7
  nmiCycles := 8

/-- The mnemonic of an opcode byte, for the debug view (10_state.md R44). -/
def mnemonicOf (c : Config) (opc : Byte) : String :=
  match decode [opc, 0, 0] with
  | .ok (i, _) => (i.opUnder c).mnemonic
  | .error _ => ""

end Sys2Proof
end

