-- ==== Sys2Proof/Machine/Memory.lean ====
section
/-! DEFINITION. The memory `M` (10_state.md R40; 20_memory.md R60 to R63): 65536 bytes held as the list of the cells
that differ from what an unlisted address reads as, addresses strictly rising. -/

namespace Sys2Proof.Machine

abbrev Memory := List Host.Cell

/-- What an address that is not listed reads as. The spec gives memory no contents at launch (92_eei_decisions.md D4:
`M0` is a parameter). DESIGN CHOICE 0x00, unsafe: log 1. -/
def unlisted : Byte := 0x00

/-- Size of the address space (20_memory.md R60). -/
def memorySize : Nat := 65536

/-- The canonical form: addresses strictly rising and inside the address space, no cell that reads as an unlisted
one. Equal memories are then equal lists (`Laws.memory_ext`). -/
abbrev Memory.wf (m : Memory) : Prop :=
  m.Pairwise (fun c d => c.1 < d.1) ∧ ∀ c ∈ m, c.1 < memorySize ∧ c.2 ≠ unlisted

/-- The byte at an address. -/
def Memory.get : Memory → Nat → Byte
  | [], _ => unlisted
  | (k, v) :: m, a => if k = a then v else Memory.get m a

/-- The memory without a cell for `a`. -/
def Memory.erase (m : Memory) (a : Nat) : Memory := m.filter fun c => c.1 != a

/-- Insertion of a cell before the first one with a higher address. -/
def Memory.insertCell : Memory → Nat → Byte → Memory
  | [], a, v => [(a, v)]
  | (k, u) :: m, a, v => if a < k then (a, v) :: (k, u) :: m else (k, u) :: Memory.insertCell m a v

/-- `M[a] <- v` for an address inside the space, in canonical form. -/
def Memory.set (m : Memory) (a : Nat) (v : Byte) : Memory :=
  if v = unlisted then m.erase a else (m.erase a).insertCell a v

/-- The bus read (20_memory.md R61): the address is reduced modulo 65536, the read never fails and changes nothing. The
qualifier "the caller intends to mutate device state" (R64) has no effect on plain RAM. -/
def Memory.busRead (m : Memory) (a : Nat) (_qualifier : Bool) : Byte := m.get (a % memorySize)

/-- The bus write (20_memory.md R62). A write outside the declared range changes nothing (R63); the core cannot make
one, since its addresses are words. -/
def Memory.busWrite (m : Memory) (a : Nat) (v : Byte) : Memory := if a < memorySize then m.set a v else m

end Sys2Proof.Machine
end

