-- ==== Sys2Proof/Machine/State.lean ====
section
/-! DEFINITION. The state of the core (10_state.md, the record at its head; R41: nothing else is state), the two
reason types of a step that stops, and the state right after reset. -/

namespace Sys2Proof.Machine

/-- The architectural and transient state, 10_state.md R20 to R40. -/
structure State where
  /-- accumulator, 10_state.md R20 -/
  A : Byte
  /-- index register, R20 -/
  X : Byte
  /-- index register, R20 -/
  Y : Byte
  /-- stack pointer into the page 0x0100 to 0x01FF, R22 -/
  SP : Byte
  /-- status register, R23 to R32 -/
  P : Byte
  /-- program counter, R21 -/
  PC : Word
  /-- the ALU input operand, R33 -/
  fetched : Byte
  /-- opcode byte of the instruction most recently started, R34 -/
  opcode : Byte
  /-- `addr_abs`, the effective address, R35 -/
  addrAbs : Word
  /-- `addr_rel`, the sign-extended branch displacement, R36 -/
  addrRel : Word
  /-- scratch for pre-truncation arithmetic, R37 -/
  temp : Word
  /-- remaining cycles of the instruction in flight, 0 = idle, R38 -/
  cycles : Nat
  /-- `clock_count`, `Clock` events since the last `Reset`, R39 -/
  clockCount : Nat
  /-- the memory, R40 -/
  M : Memory
  deriving DecidableEq, Repr

/-- Faults. There is none: the hardware has no fault of any kind (60_exceptions.md R262; 93_implementation_defined.md
part 1, last sentence), so the type has no constructor and no definition of the model can raise one. Safe. -/
inductive Fault where
  deriving DecidableEq, Repr

/-- Refusals. -/
inductive Refusal where
  /-- Raised by an arm of `exec` whose instruction has no meaning yet. No arm is left that raises it. Safe. -/
  | notModelled (mnemonic : String)
  deriving DecidableEq, Repr

/-- The outcome of an instruction or of a step. -/
abbrev Outcome := Host.Outcome State Fault Refusal

/-- The launch state of 70_reset_and_hazards.md R301: what `Reset` (R300, table of 10_state.md R43) leaves on a launch
memory `M0` when `opcode` and `temp`, which `Reset` does not write, held `opcode0` and `temp0`. -/
def State.launch (M0 : Memory) (opcode0 : Byte) (temp0 : Word) : State where
  A := 0x00
  X := 0x00
  Y := 0x00
  SP := 0xFD
  P := 0x20
  PC := word (M0.busRead 0xFFFD false) (M0.busRead 0xFFFC false)
  fetched := 0x00
  opcode := opcode0
  addrAbs := 0x0000
  addrRel := 0x0000
  temp := temp0
  cycles := 8
  clockCount := 0
  M := M0

/-- The machine right after reset. The spec gives no launch memory and no value of `opcode` and `temp`
(92_eei_decisions.md D3, D4): DESIGN CHOICE no cell listed (log 1), 0x00 and 0x0000 (log 2), both unsafe. -/
def State.reset : State := State.launch [] 0x00 0x0000

/-! One named update for each field; its lemmas are in Laws/State.lean. -/

def State.setA (s : State) (v : Byte) : State := { s with A := v }
def State.setX (s : State) (v : Byte) : State := { s with X := v }
def State.setY (s : State) (v : Byte) : State := { s with Y := v }
def State.setSP (s : State) (v : Byte) : State := { s with SP := v }
def State.setP (s : State) (v : Byte) : State := { s with P := v }
def State.setPC (s : State) (v : Word) : State := { s with PC := v }
def State.setFetched (s : State) (v : Byte) : State := { s with fetched := v }
def State.setOpcode (s : State) (v : Byte) : State := { s with opcode := v }
def State.setAddrAbs (s : State) (v : Word) : State := { s with addrAbs := v }
def State.setAddrRel (s : State) (v : Word) : State := { s with addrRel := v }
def State.setTemp (s : State) (v : Word) : State := { s with temp := v }
def State.setCycles (s : State) (v : Nat) : State := { s with cycles := v }
def State.setClockCount (s : State) (v : Nat) : State := { s with clockCount := v }
def State.setM (s : State) (v : Memory) : State := { s with M := v }

end Sys2Proof.Machine
end

