-- ==== Sys2Proof/Machine/Flags.lean ====
section
/-! DEFINITION. The status register `P` (10_state.md R23 to R32) and every flag computation the instruction rules use. -/

namespace Sys2Proof.Machine

/-- The flags of `P` (10_state.md R23). -/
inductive Flag where
  | C | Z | I | D | B | U | V | N
  deriving DecidableEq, Repr

/-- Bit position of a flag in `P` (10_state.md R23). -/
def Flag.bit : Flag → Nat
  | .C => 0
  | .Z => 1
  | .I => 2
  | .D => 3
  | .B => 4
  | .U => 5
  | .V => 6
  | .N => 7

/-- The byte with only the bit of a flag set. -/
def Flag.mask (f : Flag) : Byte := BitVec.twoPow 8 f.bit

def getFlag (p : Byte) (f : Flag) : Bool := p.getLsbD f.bit

/-- `P.f <- b`: the other seven bits stay (00_scope.md R8). -/
def putFlag (p : Byte) (f : Flag) (b : Bool) : Byte := if b then p ||| f.mask else p &&& ~~~f.mask

def State.flag (s : State) (f : Flag) : Bool := getFlag s.P f

def State.setFlag (s : State) (f : Flag) (b : Bool) : State := s.setP (putFlag s.P f b)

/-- `Z` of a result byte. -/
def isZero (v : Byte) : Bool := v == 0

/-- `N` of a result byte: bit 7. -/
def isNegative (v : Byte) : Bool := v.getLsbD 7

/-- Carry out of an add: the wide sum is above 255 (42_logic_arith.md R174). -/
def carryOut (temp : Word) : Bool := decide (255 < temp.toNat)

/-- Signed overflow of an add, bit 7 of `~(a ^ m) & (a ^ r)` (42_logic_arith.md R174). -/
def overflow (a m r : Byte) : Bool := ((~~~(a ^^^ m)) &&& (a ^^^ r)).getLsbD 7

/-- Carry of a compare: register >= operand, unsigned (42_logic_arith.md R176). -/
def notBorrow (r m : Byte) : Bool := decide (m.toNat ≤ r.toNat)

/-- The carry flag as the number the adds and rotates use. -/
def State.carryWord (s : State) : Word := if s.flag .C then 1 else 0

/-- `SetZN` (00_scope.md R10). -/
def State.setZN (s : State) (v : Byte) : State := (s.setFlag .Z (isZero v)).setFlag .N (isNegative v)

end Sys2Proof.Machine
end

