-- ==== Sys2Proof/Machine/Ops.lean ====
section
/-! DEFINITION. The named operations over memory and registers: bus accesses, the stack, the fetch of an instruction's
bytes, the two ends of an instruction, the clock, and taking a trap and returning from one. -/

namespace Sys2Proof.Machine

/-! Memory (00_scope.md R8; 20_memory.md R61, R62, R64). -/

/-- `MemRead(a, 1)`. The core drives the read qualifier false (20_memory.md R64). -/
def State.memRead (s : State) (a : Word) : Byte := s.M.busRead a.toNat false

/-- `MemWrite(a, 1, v)`. -/
def State.memWrite (s : State) (a : Word) (v : Byte) : State := s.setM (s.M.busWrite a.toNat v)

/-- The little-endian word at `a` (20_memory.md R65), as the vectors are read (60_exceptions.md R269). -/
def State.memWord (s : State) (a : Word) : Word := word (s.memRead (a + 1)) (s.memRead a)

/-- `n` bytes from `a` on. -/
def State.bytesFrom (s : State) (a : Word) (n : Nat) : List Byte :=
  (List.range n).map fun k => s.memRead (a + BitVec.ofNat 16 k)

/-- A byte string stored from `a` on. -/
def State.placeBytes (s : State) (a : Word) : List Byte → State
  | [] => s
  | b :: bs => (s.memWrite a b).placeBytes (a + 1) bs

/-! The stack (00_scope.md R10; 10_state.md R22). -/

/-- `0x0100 + SP`. -/
def stackAddr (sp : Byte) : Word := 0x0100 + zext16 sp

/-- `Push(b)`: write, then decrement. -/
def State.push (s : State) (b : Byte) : State := (s.memWrite (stackAddr s.SP) b).setSP (s.SP - 1)

/-- `Pull()`: increment, then read. -/
def State.pull (s : State) : Byte × State :=
  let s := s.setSP (s.SP + 1)
  (s.memRead (stackAddr s.SP), s)

/-- Push of a return address, high byte first (20_memory.md R65). -/
def State.pushWord (s : State) (w : Word) : State := (s.push (hi w)).push (lo w)

/-- Pull of a return address, low byte first (20_memory.md R65). -/
def State.pullWord (s : State) : Word × State :=
  let l := s.pull
  let h := l.2.pull
  (word h.1 l.1, h.2)

/-! Instruction fetch. -/

/-- The instruction at `PC`: the opcode byte, and as many operand bytes as its format has, low byte first
(30_encoding.md R90, R91; 40_step_and_addressing.md R120). -/
def State.fetchInstr (s : State) : Instr :=
  match rowOf (s.memRead s.PC) with
  | .f1 i _ => i
  | .f2 make _ => make (s.memRead (s.PC + 1))
  | .f3 make _ => make (word (s.memRead (s.PC + 2)) (s.memRead (s.PC + 1)))

/-- The start of an instruction (40_step_and_addressing.md R120): `opcode` is set, `PC` steps over it, `P.U` is forced
to 1 and `cycles` is loaded with the base count. -/
def State.beginInstr (s : State) (c : Config) (opc : Byte) : State :=
  (((s.setOpcode opc).setPC (s.PC + 1)).setFlag .U true).setCycles (c.baseCycles opc)

/-- The end of an instruction (40_step_and_addressing.md R120, R122): one more cycle when both signals are 1, and
`P.U` forced to 1 again. -/
def State.endInstr (s : State) (extra : Bool) : State :=
  (s.setCycles (s.cycles + extra.toNat)).setFlag .U true

/-- What every `Clock` event does in either phase (40_step_and_addressing.md R120, last two lines). -/
def State.clockTick (s : State) : State := (s.setClockCount (s.clockCount + 1)).setCycles (s.cycles - 1)

/-- The output `complete` (40_step_and_addressing.md R136). -/
def State.complete (s : State) : Bool := s.cycles == 0

/-- One `Clock` event of a core whose instructions `run` gives: when the core is idle it runs the instruction at `PC`, and
in either phase the counters move (40_step_and_addressing.md R120, R121). -/
def clockEvent (run : Instr → State → Outcome) (s : State) : Outcome :=
  if s.complete then
    match run s.fetchInstr s with
    | .next t => .next t.clockTick
    | .fault r => .fault r
    | .refused r => .refused r
  else .next s.clockTick

/-! Taking a trap and returning from one (60_exceptions.md R268, R269, R271). -/

def vectorNMI : Word := 0xFFFA
def vectorReset : Word := 0xFFFC
def vectorIRQ : Word := 0xFFFE

/-- Trap entry, shared by BRK, `Irq` and `Nmi` (60_exceptions.md R268, R269): `PC` is pushed high then low, `I` and `U`
are set and `B` is given the value that tells BRK from the others, `P` is pushed, the live `B` is cleared and `PC` is
loaded from the vector. No mode changes (R274). -/
def State.enterTrap (s : State) (brk : Bool) (vector : Word) : State :=
  let s := s.pushWord s.PC
  let s := ((s.setFlag .I true).setFlag .U true).setFlag .B brk
  let s := (s.push s.P).setFlag .B false
  s.setPC (s.memWord vector)

/-- Return from a trap (45_stack_flags_system.md R242; 60_exceptions.md R271): the status byte is pulled with `B` and
`U` cleared (the end of the instruction sets `U` again), then the return address, to which nothing is added. -/
def State.returnFromTrap (s : State) : State :=
  let p := s.pull
  let s := ((p.2.setP p.1).setFlag .B false).setFlag .U false
  let r := s.pullWord
  r.2.setPC r.1

end Sys2Proof.Machine
end

