-- ==== Sys2Proof/Machine/Operands.lean ====
section
/-! DEFINITION. The addressing-mode resolver (40_step_and_addressing.md R124 to R135, table R139), the operand fetch
R123, the write-back of 43_shift_incdec.md, and the frame every instruction runs in (R120). Operand bytes are those the
instruction carries; `PC` points at byte 1 when a mode runs. -/

namespace Sys2Proof.Machine

/-- The word whose two bytes lie in the zero page at `t` and at `t + 1` modulo 256 (R134, R135). -/
def State.zeroPagePointer (s : State) (t : Byte) : Word :=
  word (s.memRead (zext16 (t + 1))) (s.memRead (zext16 t))

/-- Where the high byte of an indirect target is read: the start of the same page when the pointer's low byte is 0xFF
(R133). -/
def indirectHigh (ptr : Word) : Word := if lo ptr = 0xFF then ptr &&& 0xFF00 else ptr + 1

/-- The effective address `addr_abs` a mode leaves (R125 to R135). IMP and REL leave the old one (R124, R129). -/
def effAddr (m : Mode) (s : State) : Word :=
  match m with
  | .imp => s.addrAbs
  | .imm _ => s.PC
  | .zp0 z => zext16 z
  | .zpx z => zext16 (z + s.X)
  | .zpy z => zext16 (z + s.Y)
  | .rel _ => s.addrAbs
  | .abs w => w
  | .abx w => w + zext16 s.X
  | .aby w => w + zext16 s.Y
  | .ind w => word (s.memRead (indirectHigh w)) (s.memRead w)
  | .izx z => s.zeroPagePointer (z + s.X)
  | .izy z => s.zeroPagePointer z + zext16 s.Y

/-- The extra-cycle signal `a1` of a mode (R131, R132, R135): the index addition changed the high byte. -/
def pageCross (m : Mode) (s : State) : Bool :=
  match m with
  | .abx w | .aby w => hi (effAddr m s) != hi w
  | .izy z => hi (effAddr m s) != hi (s.zeroPagePointer z)
  | .imp | .imm _ | .zp0 _ | .zpx _ | .zpy _ | .rel _ | .abs _ | .ind _ | .izx _ => false

/-- `PC` steps over the operand bytes of a mode. -/
def State.skipOperand (s : State) (m : Mode) : State := s.setPC (s.PC + BitVec.ofNat 16 m.kind.operandBytes)

/-- The addressing mode (R124 to R135): it changes `PC`, and `fetched` (IMP), `addr_rel` (REL) or `addr_abs` (the
others), and returns its extra-cycle signal. -/
def resolve (m : Mode) (s : State) : State × Bool :=
  match m with
  | .imp => (s.setFetched s.A, false)
  | .rel d => ((s.skipOperand m).setAddrRel (sext16 d), false)
  | .imm _ | .zp0 _ | .zpx _ | .zpy _ | .abs _ | .abx _ | .aby _ | .ind _ | .izx _ | .izy _ =>
    ((s.skipOperand m).setAddrAbs (effAddr m s), pageCross m s)

/-- `Fetch` (R123). The immediate operand is byte 1 of the instruction, which is the byte at `addr_abs` (R125, log 7). -/
def fetch (m : Mode) (s : State) : State :=
  match m with
  | .imp => s
  | .imm v => s.setFetched v
  | .zp0 _ | .zpx _ | .zpy _ | .rel _ | .abs _ | .abx _ | .aby _ | .ind _ | .izx _ | .izy _ =>
    s.setFetched (s.memRead s.addrAbs)

/-- `WriteBack(v)` (43_shift_incdec.md section 1). -/
def writeBack (m : Mode) (v : Byte) (s : State) : State :=
  match m with
  | .imp => s.setA v
  | .imm _ | .zp0 _ | .zpx _ | .zpy _ | .rel _ | .abs _ | .abx _ | .aby _ | .ind _ | .izx _ | .izy _ =>
    s.memWrite s.addrAbs v

/-- One whole instruction under a configuration, from the state in which `PC` points at its opcode byte (40_step_and_addressing.md R120, the
idle branch; R122, R137): the opcode is noted, the mode runs, then the operation, then the extra cycle is added when
both signals are 1. -/
def runInstr (c : Config) (opc : Byte) (m : Mode) (op : Mode → State → State × Bool) (s : State) : Outcome :=
  let r := resolve m (s.beginInstr c opc)
  let t := op m r.1
  .next (t.1.endInstr (r.2 && t.2))

end Sys2Proof.Machine
end

