-- ==== Sys2Proof/Machine/BranchJump.lean ====
section
/-! DEFINITION. Branches, jumps and subroutines (44_branch_jump.md): each operation, then
one meaning for each row of the opcode table. -/

namespace Sys2Proof.Machine

/-- `Branch(cond)` (R210): one more cycle when taken, a second one when the target lies in another page than the next
instruction; the target is left in `addr_abs`. -/
def State.branch (s : State) (cond : Bool) : State :=
  if cond then
    let target := s.PC + s.addrRel
    let crossed := hi target != hi s.PC
    ((s.setCycles (s.cycles + 1 + crossed.toNat)).setAddrAbs target).setPC target
  else s

/-- BCC (R211). -/
def opBCC (_ : Mode) (s : State) : State × Bool := (s.branch (!s.flag .C), false)

/-- 0x90 BCC REL (R211, R129). -/
def execBcc (d : Byte) (s : State) : Outcome := runInstr cfg 0x90 (.rel d) opBCC s

/-- BCS (R212). -/
def opBCS (_ : Mode) (s : State) : State × Bool := (s.branch (s.flag .C), false)

/-- 0xB0 BCS REL (R212, R129). -/
def execBcs (d : Byte) (s : State) : Outcome := runInstr cfg 0xB0 (.rel d) opBCS s

/-- BEQ (R213). -/
def opBEQ (_ : Mode) (s : State) : State × Bool := (s.branch (s.flag .Z), false)

/-- 0xF0 BEQ REL (R213, R129). -/
def execBeq (d : Byte) (s : State) : Outcome := runInstr cfg 0xF0 (.rel d) opBEQ s

/-- BNE (R214). -/
def opBNE (_ : Mode) (s : State) : State × Bool := (s.branch (!s.flag .Z), false)

/-- 0xD0 BNE REL (R214, R129). -/
def execBne (d : Byte) (s : State) : Outcome := runInstr cfg 0xD0 (.rel d) opBNE s

/-- BMI (R215). -/
def opBMI (_ : Mode) (s : State) : State × Bool := (s.branch (s.flag .N), false)

/-- 0x30 BMI REL (R215, R129). -/
def execBmi (d : Byte) (s : State) : Outcome := runInstr cfg 0x30 (.rel d) opBMI s

/-- BPL (R216). -/
def opBPL (_ : Mode) (s : State) : State × Bool := (s.branch (!s.flag .N), false)

/-- 0x10 BPL REL (R216, R129). -/
def execBpl (d : Byte) (s : State) : Outcome := runInstr cfg 0x10 (.rel d) opBPL s

/-- BVC (R217). -/
def opBVC (_ : Mode) (s : State) : State × Bool := (s.branch (!s.flag .V), false)

/-- 0x50 BVC REL (R217, R129). -/
def execBvc (d : Byte) (s : State) : Outcome := runInstr cfg 0x50 (.rel d) opBVC s

/-- BVS (R218). -/
def opBVS (_ : Mode) (s : State) : State × Bool := (s.branch (s.flag .V), false)

/-- 0x70 BVS REL (R218, R129). -/
def execBvs (d : Byte) (s : State) : Outcome := runInstr cfg 0x70 (.rel d) opBVS s

/-- JMP (R219). -/
def opJMP (_ : Mode) (s : State) : State × Bool := (s.setPC s.addrAbs, false)

/-- 0x4C JMP ABS (R219, R130). -/
def execJmpAbs (w : Word) (s : State) : Outcome := runInstr cfg 0x4C (.abs w) opJMP s

/-- 0x6C JMP IND (R219, R133). -/
def execJmpInd (w : Word) (s : State) : Outcome := runInstr cfg 0x6C (.ind w) opJMP s

/-- JSR (R220). The pushed word is the address of the last byte of the JSR. -/
def opJSR (_ : Mode) (s : State) : State × Bool :=
  let s := s.setPC (s.PC - 1)
  let s := s.pushWord s.PC
  (s.setPC s.addrAbs, false)

/-- 0x20 JSR ABS (R220, R130). -/
def execJsr (w : Word) (s : State) : Outcome := runInstr cfg 0x20 (.abs w) opJSR s

/-- RTS (R221). 1 is added to the pulled address. -/
def opRTS (_ : Mode) (s : State) : State × Bool :=
  let r := s.pullWord
  (r.2.setPC (r.1 + 1), false)

/-- 0x60 RTS IMP (R221, R124). -/
def execRts (s : State) : Outcome := runInstr cfg 0x60 .imp opRTS s

end Sys2Proof.Machine
end

