-- ==== Sys2Proof/Machine/LoadStore.lean ====
section
/-! DEFINITION. Loads, stores and register transfers (41_load_store_transfer.md): each operation, then
one meaning for each row of the opcode table. -/

namespace Sys2Proof.Machine

/-- LDA (R150). -/
def opLDA (m : Mode) (s : State) : State × Bool :=
  let s := fetch m s
  ((s.setA s.fetched).setZN s.fetched, true)

/-- 0xA1 LDA IZX (R150, R134). -/
def execLdaIzx (z : Byte) (s : State) : Outcome := runInstr cfg 0xA1 (.izx z) opLDA s

/-- 0xA5 LDA ZP0 (R150, R126). -/
def execLdaZp0 (z : Byte) (s : State) : Outcome := runInstr cfg 0xA5 (.zp0 z) opLDA s

/-- 0xA9 LDA IMM (R150, R125). -/
def execLdaImm (v : Byte) (s : State) : Outcome := runInstr cfg 0xA9 (.imm v) opLDA s

/-- 0xAD LDA ABS (R150, R130). -/
def execLdaAbs (w : Word) (s : State) : Outcome := runInstr cfg 0xAD (.abs w) opLDA s

/-- 0xB1 LDA IZY (R150, R135). -/
def execLdaIzy (z : Byte) (s : State) : Outcome := runInstr cfg 0xB1 (.izy z) opLDA s

/-- 0xB5 LDA ZPX (R150, R127). -/
def execLdaZpx (z : Byte) (s : State) : Outcome := runInstr cfg 0xB5 (.zpx z) opLDA s

/-- 0xB9 LDA ABY (R150, R132). -/
def execLdaAby (w : Word) (s : State) : Outcome := runInstr cfg 0xB9 (.aby w) opLDA s

/-- 0xBD LDA ABX (R150, R131). -/
def execLdaAbx (w : Word) (s : State) : Outcome := runInstr cfg 0xBD (.abx w) opLDA s

/-- LDX (R151). -/
def opLDX (m : Mode) (s : State) : State × Bool :=
  let s := fetch m s
  ((s.setX s.fetched).setZN s.fetched, true)

/-- 0xA2 LDX IMM (R151, R125). -/
def execLdxImm (v : Byte) (s : State) : Outcome := runInstr cfg 0xA2 (.imm v) opLDX s

/-- 0xA6 LDX ZP0 (R151, R126). -/
def execLdxZp0 (z : Byte) (s : State) : Outcome := runInstr cfg 0xA6 (.zp0 z) opLDX s

/-- 0xAE LDX ABS (R151, R130). -/
def execLdxAbs (w : Word) (s : State) : Outcome := runInstr cfg 0xAE (.abs w) opLDX s

/-- 0xB6 LDX ZPY (R151, R128). -/
def execLdxZpy (z : Byte) (s : State) : Outcome := runInstr cfg 0xB6 (.zpy z) opLDX s

/-- 0xBE LDX ABY (R151, R132). -/
def execLdxAby (w : Word) (s : State) : Outcome := runInstr cfg 0xBE (.aby w) opLDX s

/-- LDY (R152). -/
def opLDY (m : Mode) (s : State) : State × Bool :=
  let s := fetch m s
  ((s.setY s.fetched).setZN s.fetched, true)

/-- 0xA0 LDY IMM (R152, R125). -/
def execLdyImm (v : Byte) (s : State) : Outcome := runInstr cfg 0xA0 (.imm v) opLDY s

/-- 0xA4 LDY ZP0 (R152, R126). -/
def execLdyZp0 (z : Byte) (s : State) : Outcome := runInstr cfg 0xA4 (.zp0 z) opLDY s

/-- 0xAC LDY ABS (R152, R130). -/
def execLdyAbs (w : Word) (s : State) : Outcome := runInstr cfg 0xAC (.abs w) opLDY s

/-- 0xB4 LDY ZPX (R152, R127). -/
def execLdyZpx (z : Byte) (s : State) : Outcome := runInstr cfg 0xB4 (.zpx z) opLDY s

/-- 0xBC LDY ABX (R152, R131). -/
def execLdyAbx (w : Word) (s : State) : Outcome := runInstr cfg 0xBC (.abx w) opLDY s

/-- STA (R153). The target is not read. -/
def opSTA (_ : Mode) (s : State) : State × Bool := (s.memWrite s.addrAbs s.A, false)

/-- 0x81 STA IZX (R153, R134). -/
def execStaIzx (z : Byte) (s : State) : Outcome := runInstr cfg 0x81 (.izx z) opSTA s

/-- 0x85 STA ZP0 (R153, R126). -/
def execStaZp0 (z : Byte) (s : State) : Outcome := runInstr cfg 0x85 (.zp0 z) opSTA s

/-- 0x8D STA ABS (R153, R130). -/
def execStaAbs (w : Word) (s : State) : Outcome := runInstr cfg 0x8D (.abs w) opSTA s

/-- 0x91 STA IZY (R153, R135). -/
def execStaIzy (z : Byte) (s : State) : Outcome := runInstr cfg 0x91 (.izy z) opSTA s

/-- 0x95 STA ZPX (R153, R127). -/
def execStaZpx (z : Byte) (s : State) : Outcome := runInstr cfg 0x95 (.zpx z) opSTA s

/-- 0x99 STA ABY (R153, R132). -/
def execStaAby (w : Word) (s : State) : Outcome := runInstr cfg 0x99 (.aby w) opSTA s

/-- 0x9D STA ABX (R153, R131). -/
def execStaAbx (w : Word) (s : State) : Outcome := runInstr cfg 0x9D (.abx w) opSTA s

/-- STX (R154). The target is not read. -/
def opSTX (_ : Mode) (s : State) : State × Bool := (s.memWrite s.addrAbs s.X, false)

/-- 0x86 STX ZP0 (R154, R126). -/
def execStxZp0 (z : Byte) (s : State) : Outcome := runInstr cfg 0x86 (.zp0 z) opSTX s

/-- 0x8E STX ABS (R154, R130). -/
def execStxAbs (w : Word) (s : State) : Outcome := runInstr cfg 0x8E (.abs w) opSTX s

/-- 0x96 STX ZPY (R154, R128). -/
def execStxZpy (z : Byte) (s : State) : Outcome := runInstr cfg 0x96 (.zpy z) opSTX s

/-- STY (R155). The target is not read. -/
def opSTY (_ : Mode) (s : State) : State × Bool := (s.memWrite s.addrAbs s.Y, false)

/-- 0x84 STY ZP0 (R155, R126). -/
def execStyZp0 (z : Byte) (s : State) : Outcome := runInstr cfg 0x84 (.zp0 z) opSTY s

/-- 0x8C STY ABS (R155, R130). -/
def execStyAbs (w : Word) (s : State) : Outcome := runInstr cfg 0x8C (.abs w) opSTY s

/-- 0x94 STY ZPX (R155, R127). -/
def execStyZpx (z : Byte) (s : State) : Outcome := runInstr cfg 0x94 (.zpx z) opSTY s

/-- TAX (R156). -/
def opTAX (_ : Mode) (s : State) : State × Bool := ((s.setX s.A).setZN s.A, false)

/-- 0xAA TAX IMP (R156, R124). -/
def execTax (s : State) : Outcome := runInstr cfg 0xAA .imp opTAX s

/-- TAY (R157). -/
def opTAY (_ : Mode) (s : State) : State × Bool := ((s.setY s.A).setZN s.A, false)

/-- 0xA8 TAY IMP (R157, R124). -/
def execTay (s : State) : Outcome := runInstr cfg 0xA8 .imp opTAY s

/-- TXA (R158). -/
def opTXA (_ : Mode) (s : State) : State × Bool := ((s.setA s.X).setZN s.X, false)

/-- 0x8A TXA IMP (R158, R124). -/
def execTxa (s : State) : Outcome := runInstr cfg 0x8A .imp opTXA s

/-- TYA (R159). -/
def opTYA (_ : Mode) (s : State) : State × Bool := ((s.setA s.Y).setZN s.Y, false)

/-- 0x98 TYA IMP (R159, R124). -/
def execTya (s : State) : Outcome := runInstr cfg 0x98 .imp opTYA s

/-- TSX (R160). -/
def opTSX (_ : Mode) (s : State) : State × Bool := ((s.setX s.SP).setZN s.SP, false)

/-- 0xBA TSX IMP (R160, R124). -/
def execTsx (s : State) : Outcome := runInstr cfg 0xBA .imp opTSX s

/-- TXS (R161). No flag changes. -/
def opTXS (_ : Mode) (s : State) : State × Bool := (s.setSP s.X, false)

/-- 0x9A TXS IMP (R161, R124). -/
def execTxs (s : State) : Outcome := runInstr cfg 0x9A .imp opTXS s

end Sys2Proof.Machine
end

