-- ==== Sys2Proof/Machine/LogicArith.lean ====
section
/-! DEFINITION. Logic, add and subtract, compares. No decimal mode (R180): nothing here reads `P.D` (42_logic_arith.md): each operation, then
one meaning for each row of the opcode table. -/

namespace Sys2Proof.Machine

/-- The add of ADC and SBC (R174, R175): `temp` is the wide sum of `A`, `v` and the carry; `C`, `Z`, `V`, `N` and the new
`A` come from it, `V` with the old `A`. -/
def State.addWithCarry (s : State) (v : Byte) : State :=
  let temp := zext16 s.A + zext16 v + s.carryWord
  let r := lo temp
  let s := (s.setTemp temp).setFlag .C (carryOut temp)
  let s := ((s.setFlag .Z (isZero r)).setFlag .V (overflow s.A v r)).setFlag .N (isNegative r)
  s.setA r

/-- The compare of CMP, CPX and CPY (R176 to R178): the register `r` against `fetched`. -/
def State.compareWith (s : State) (r : Byte) : State :=
  let temp := zext16 r - zext16 s.fetched
  ((s.setTemp temp).setFlag .C (notBorrow r s.fetched)).setZN (lo temp)

/-- AND (R170). -/
def opAND (m : Mode) (s : State) : State × Bool :=
  let s := fetch m s
  let r := s.A &&& s.fetched
  ((s.setA r).setZN r, true)

/-- 0x21 AND IZX (R170, R134). -/
def execAndIzx (z : Byte) (s : State) : Outcome := runInstr cfg 0x21 (.izx z) opAND s

/-- 0x25 AND ZP0 (R170, R126). -/
def execAndZp0 (z : Byte) (s : State) : Outcome := runInstr cfg 0x25 (.zp0 z) opAND s

/-- 0x29 AND IMM (R170, R125). -/
def execAndImm (v : Byte) (s : State) : Outcome := runInstr cfg 0x29 (.imm v) opAND s

/-- 0x2D AND ABS (R170, R130). -/
def execAndAbs (w : Word) (s : State) : Outcome := runInstr cfg 0x2D (.abs w) opAND s

/-- 0x31 AND IZY (R170, R135). -/
def execAndIzy (z : Byte) (s : State) : Outcome := runInstr cfg 0x31 (.izy z) opAND s

/-- 0x35 AND ZPX (R170, R127). -/
def execAndZpx (z : Byte) (s : State) : Outcome := runInstr cfg 0x35 (.zpx z) opAND s

/-- 0x39 AND ABY (R170, R132). -/
def execAndAby (w : Word) (s : State) : Outcome := runInstr cfg 0x39 (.aby w) opAND s

/-- 0x3D AND ABX (R170, R131). -/
def execAndAbx (w : Word) (s : State) : Outcome := runInstr cfg 0x3D (.abx w) opAND s

/-- ORA (R171). -/
def opORA (m : Mode) (s : State) : State × Bool :=
  let s := fetch m s
  let r := s.A ||| s.fetched
  ((s.setA r).setZN r, true)

/-- 0x01 ORA IZX (R171, R134). -/
def execOraIzx (z : Byte) (s : State) : Outcome := runInstr cfg 0x01 (.izx z) opORA s

/-- 0x05 ORA ZP0 (R171, R126). -/
def execOraZp0 (z : Byte) (s : State) : Outcome := runInstr cfg 0x05 (.zp0 z) opORA s

/-- 0x09 ORA IMM (R171, R125). -/
def execOraImm (v : Byte) (s : State) : Outcome := runInstr cfg 0x09 (.imm v) opORA s

/-- 0x0D ORA ABS (R171, R130). -/
def execOraAbs (w : Word) (s : State) : Outcome := runInstr cfg 0x0D (.abs w) opORA s

/-- 0x11 ORA IZY (R171, R135). -/
def execOraIzy (z : Byte) (s : State) : Outcome := runInstr cfg 0x11 (.izy z) opORA s

/-- 0x15 ORA ZPX (R171, R127). -/
def execOraZpx (z : Byte) (s : State) : Outcome := runInstr cfg 0x15 (.zpx z) opORA s

/-- 0x19 ORA ABY (R171, R132). -/
def execOraAby (w : Word) (s : State) : Outcome := runInstr cfg 0x19 (.aby w) opORA s

/-- 0x1D ORA ABX (R171, R131). -/
def execOraAbx (w : Word) (s : State) : Outcome := runInstr cfg 0x1D (.abx w) opORA s

/-- EOR (R172). -/
def opEOR (m : Mode) (s : State) : State × Bool :=
  let s := fetch m s
  let r := s.A ^^^ s.fetched
  ((s.setA r).setZN r, true)

/-- 0x41 EOR IZX (R172, R134). -/
def execEorIzx (z : Byte) (s : State) : Outcome := runInstr cfg 0x41 (.izx z) opEOR s

/-- 0x45 EOR ZP0 (R172, R126). -/
def execEorZp0 (z : Byte) (s : State) : Outcome := runInstr cfg 0x45 (.zp0 z) opEOR s

/-- 0x49 EOR IMM (R172, R125). -/
def execEorImm (v : Byte) (s : State) : Outcome := runInstr cfg 0x49 (.imm v) opEOR s

/-- 0x4D EOR ABS (R172, R130). -/
def execEorAbs (w : Word) (s : State) : Outcome := runInstr cfg 0x4D (.abs w) opEOR s

/-- 0x51 EOR IZY (R172, R135). -/
def execEorIzy (z : Byte) (s : State) : Outcome := runInstr cfg 0x51 (.izy z) opEOR s

/-- 0x55 EOR ZPX (R172, R127). -/
def execEorZpx (z : Byte) (s : State) : Outcome := runInstr cfg 0x55 (.zpx z) opEOR s

/-- 0x59 EOR ABY (R172, R132). -/
def execEorAby (w : Word) (s : State) : Outcome := runInstr cfg 0x59 (.aby w) opEOR s

/-- 0x5D EOR ABX (R172, R131). -/
def execEorAbx (w : Word) (s : State) : Outcome := runInstr cfg 0x5D (.abx w) opEOR s

/-- BIT (R173). `N` and `V` are bits 7 and 6 of the operand, `Z` is that of `A & operand`. -/
def opBIT (m : Mode) (s : State) : State × Bool :=
  let s := fetch m s
  let s := s.setTemp (zext16 (s.A &&& s.fetched))
  (((s.setFlag .Z (isZero (lo s.temp))).setFlag .N (s.fetched.getLsbD 7)).setFlag .V (s.fetched.getLsbD 6), false)

/-- 0x24 BIT ZP0 (R173, R126). -/
def execBitZp0 (z : Byte) (s : State) : Outcome := runInstr cfg 0x24 (.zp0 z) opBIT s

/-- 0x2C BIT ABS (R173, R130). -/
def execBitAbs (w : Word) (s : State) : Outcome := runInstr cfg 0x2C (.abs w) opBIT s

/-- ADC (R174). -/
def opADC (m : Mode) (s : State) : State × Bool :=
  let s := fetch m s
  (s.addWithCarry s.fetched, true)

/-- 0x61 ADC IZX (R174, R134). -/
def execAdcIzx (z : Byte) (s : State) : Outcome := runInstr cfg 0x61 (.izx z) opADC s

/-- 0x65 ADC ZP0 (R174, R126). -/
def execAdcZp0 (z : Byte) (s : State) : Outcome := runInstr cfg 0x65 (.zp0 z) opADC s

/-- 0x69 ADC IMM (R174, R125). -/
def execAdcImm (v : Byte) (s : State) : Outcome := runInstr cfg 0x69 (.imm v) opADC s

/-- 0x6D ADC ABS (R174, R130). -/
def execAdcAbs (w : Word) (s : State) : Outcome := runInstr cfg 0x6D (.abs w) opADC s

/-- 0x71 ADC IZY (R174, R135). -/
def execAdcIzy (z : Byte) (s : State) : Outcome := runInstr cfg 0x71 (.izy z) opADC s

/-- 0x75 ADC ZPX (R174, R127). -/
def execAdcZpx (z : Byte) (s : State) : Outcome := runInstr cfg 0x75 (.zpx z) opADC s

/-- 0x79 ADC ABY (R174, R132). -/
def execAdcAby (w : Word) (s : State) : Outcome := runInstr cfg 0x79 (.aby w) opADC s

/-- 0x7D ADC ABX (R174, R131). -/
def execAdcAbx (w : Word) (s : State) : Outcome := runInstr cfg 0x7D (.abx w) opADC s

/-- SBC (R175). The add of the complemented operand. -/
def opSBC (m : Mode) (s : State) : State × Bool :=
  let s := fetch m s
  (s.addWithCarry (s.fetched ^^^ 0xFF), true)

/-- 0xE1 SBC IZX (R175, R134). -/
def execSbcIzx (z : Byte) (s : State) : Outcome := runInstr cfg 0xE1 (.izx z) opSBC s

/-- 0xE5 SBC ZP0 (R175, R126). -/
def execSbcZp0 (z : Byte) (s : State) : Outcome := runInstr cfg 0xE5 (.zp0 z) opSBC s

/-- 0xE9 SBC IMM (R175, R125). -/
def execSbcImm (v : Byte) (s : State) : Outcome := runInstr cfg 0xE9 (.imm v) opSBC s

/-- 0xED SBC ABS (R175, R130). -/
def execSbcAbs (w : Word) (s : State) : Outcome := runInstr cfg 0xED (.abs w) opSBC s

/-- 0xF1 SBC IZY (R175, R135). -/
def execSbcIzy (z : Byte) (s : State) : Outcome := runInstr cfg 0xF1 (.izy z) opSBC s

/-- 0xF5 SBC ZPX (R175, R127). -/
def execSbcZpx (z : Byte) (s : State) : Outcome := runInstr cfg 0xF5 (.zpx z) opSBC s

/-- 0xF9 SBC ABY (R175, R132). -/
def execSbcAby (w : Word) (s : State) : Outcome := runInstr cfg 0xF9 (.aby w) opSBC s

/-- 0xFD SBC ABX (R175, R131). -/
def execSbcAbx (w : Word) (s : State) : Outcome := runInstr cfg 0xFD (.abx w) opSBC s

/-- CMP (R176). -/
def opCMP (m : Mode) (s : State) : State × Bool :=
  let s := fetch m s
  (s.compareWith s.A, true)

/-- 0xC1 CMP IZX (R176, R134). -/
def execCmpIzx (z : Byte) (s : State) : Outcome := runInstr cfg 0xC1 (.izx z) opCMP s

/-- 0xC5 CMP ZP0 (R176, R126). -/
def execCmpZp0 (z : Byte) (s : State) : Outcome := runInstr cfg 0xC5 (.zp0 z) opCMP s

/-- 0xC9 CMP IMM (R176, R125). -/
def execCmpImm (v : Byte) (s : State) : Outcome := runInstr cfg 0xC9 (.imm v) opCMP s

/-- 0xCD CMP ABS (R176, R130). -/
def execCmpAbs (w : Word) (s : State) : Outcome := runInstr cfg 0xCD (.abs w) opCMP s

/-- 0xD1 CMP IZY (R176, R135). -/
def execCmpIzy (z : Byte) (s : State) : Outcome := runInstr cfg 0xD1 (.izy z) opCMP s

/-- 0xD5 CMP ZPX (R176, R127). -/
def execCmpZpx (z : Byte) (s : State) : Outcome := runInstr cfg 0xD5 (.zpx z) opCMP s

/-- 0xD9 CMP ABY (R176, R132). -/
def execCmpAby (w : Word) (s : State) : Outcome := runInstr cfg 0xD9 (.aby w) opCMP s

/-- 0xDD CMP ABX (R176, R131). -/
def execCmpAbx (w : Word) (s : State) : Outcome := runInstr cfg 0xDD (.abx w) opCMP s

/-- CPX (R177). -/
def opCPX (m : Mode) (s : State) : State × Bool :=
  let s := fetch m s
  (s.compareWith s.X, false)

/-- 0xE0 CPX IMM (R177, R125). -/
def execCpxImm (v : Byte) (s : State) : Outcome := runInstr cfg 0xE0 (.imm v) opCPX s

/-- 0xE4 CPX ZP0 (R177, R126). -/
def execCpxZp0 (z : Byte) (s : State) : Outcome := runInstr cfg 0xE4 (.zp0 z) opCPX s

/-- 0xEC CPX ABS (R177, R130). -/
def execCpxAbs (w : Word) (s : State) : Outcome := runInstr cfg 0xEC (.abs w) opCPX s

/-- CPY (R178). -/
def opCPY (m : Mode) (s : State) : State × Bool :=
  let s := fetch m s
  (s.compareWith s.Y, false)

/-- 0xC0 CPY IMM (R178, R125). -/
def execCpyImm (v : Byte) (s : State) : Outcome := runInstr cfg 0xC0 (.imm v) opCPY s

/-- 0xC4 CPY ZP0 (R178, R126). -/
def execCpyZp0 (z : Byte) (s : State) : Outcome := runInstr cfg 0xC4 (.zp0 z) opCPY s

/-- 0xCC CPY ABS (R178, R130). -/
def execCpyAbs (w : Word) (s : State) : Outcome := runInstr cfg 0xCC (.abs w) opCPY s

end Sys2Proof.Machine
end

