-- ==== Sys2Proof/Machine/ShiftIncDec.lean ====
section
/-! DEFINITION. Shifts, rotates, increments and decrements. The extra-cycle signal of each is 0 (43_shift_incdec.md): each operation, then
one meaning for each row of the opcode table. -/

namespace Sys2Proof.Machine

/-- ASL (R190). -/
def opASL (m : Mode) (s : State) : State × Bool :=
  let s := fetch m s
  let s := (s.setTemp (zext16 s.fetched <<< 1)).setFlag .C (s.fetched.getLsbD 7)
  (writeBack m (lo s.temp) (s.setZN (lo s.temp)), false)

/-- 0x06 ASL ZP0 (R190, R126). -/
def execAslZp0 (z : Byte) (s : State) : Outcome := runInstr cfg 0x06 (.zp0 z) opASL s

/-- 0x0A ASL IMP (R190, R124). -/
def execAslImp (s : State) : Outcome := runInstr cfg 0x0A .imp opASL s

/-- 0x0E ASL ABS (R190, R130). -/
def execAslAbs (w : Word) (s : State) : Outcome := runInstr cfg 0x0E (.abs w) opASL s

/-- 0x16 ASL ZPX (R190, R127). -/
def execAslZpx (z : Byte) (s : State) : Outcome := runInstr cfg 0x16 (.zpx z) opASL s

/-- 0x1E ASL ABX (R190, R131). -/
def execAslAbx (w : Word) (s : State) : Outcome := runInstr cfg 0x1E (.abx w) opASL s

/-- LSR (R191). -/
def opLSR (m : Mode) (s : State) : State × Bool :=
  let s := fetch m s
  let s := (s.setFlag .C (s.fetched.getLsbD 0)).setTemp (zext16 s.fetched >>> 1)
  (writeBack m (lo s.temp) (s.setZN (lo s.temp)), false)

/-- 0x46 LSR ZP0 (R191, R126). -/
def execLsrZp0 (z : Byte) (s : State) : Outcome := runInstr cfg 0x46 (.zp0 z) opLSR s

/-- 0x4A LSR IMP (R191, R124). -/
def execLsrImp (s : State) : Outcome := runInstr cfg 0x4A .imp opLSR s

/-- 0x4E LSR ABS (R191, R130). -/
def execLsrAbs (w : Word) (s : State) : Outcome := runInstr cfg 0x4E (.abs w) opLSR s

/-- 0x56 LSR ZPX (R191, R127). -/
def execLsrZpx (z : Byte) (s : State) : Outcome := runInstr cfg 0x56 (.zpx z) opLSR s

/-- 0x5E LSR ABX (R191, R131). -/
def execLsrAbx (w : Word) (s : State) : Outcome := runInstr cfg 0x5E (.abx w) opLSR s

/-- ROL (R192). -/
def opROL (m : Mode) (s : State) : State × Bool :=
  let s := fetch m s
  let s := (s.setTemp ((zext16 s.fetched <<< 1) ||| s.carryWord)).setFlag .C (s.fetched.getLsbD 7)
  (writeBack m (lo s.temp) (s.setZN (lo s.temp)), false)

/-- 0x26 ROL ZP0 (R192, R126). -/
def execRolZp0 (z : Byte) (s : State) : Outcome := runInstr cfg 0x26 (.zp0 z) opROL s

/-- 0x2A ROL IMP (R192, R124). -/
def execRolImp (s : State) : Outcome := runInstr cfg 0x2A .imp opROL s

/-- 0x2E ROL ABS (R192, R130). -/
def execRolAbs (w : Word) (s : State) : Outcome := runInstr cfg 0x2E (.abs w) opROL s

/-- 0x36 ROL ZPX (R192, R127). -/
def execRolZpx (z : Byte) (s : State) : Outcome := runInstr cfg 0x36 (.zpx z) opROL s

/-- 0x3E ROL ABX (R192, R131). -/
def execRolAbx (w : Word) (s : State) : Outcome := runInstr cfg 0x3E (.abx w) opROL s

/-- ROR (R193). -/
def opROR (m : Mode) (s : State) : State × Bool :=
  let s := fetch m s
  let s := (s.setTemp ((s.carryWord <<< 7) ||| (zext16 s.fetched >>> 1))).setFlag .C (s.fetched.getLsbD 0)
  (writeBack m (lo s.temp) (s.setZN (lo s.temp)), false)

/-- 0x66 ROR ZP0 (R193, R126). -/
def execRorZp0 (z : Byte) (s : State) : Outcome := runInstr cfg 0x66 (.zp0 z) opROR s

/-- 0x6A ROR IMP (R193, R124). -/
def execRorImp (s : State) : Outcome := runInstr cfg 0x6A .imp opROR s

/-- 0x6E ROR ABS (R193, R130). -/
def execRorAbs (w : Word) (s : State) : Outcome := runInstr cfg 0x6E (.abs w) opROR s

/-- 0x76 ROR ZPX (R193, R127). -/
def execRorZpx (z : Byte) (s : State) : Outcome := runInstr cfg 0x76 (.zpx z) opROR s

/-- 0x7E ROR ABX (R193, R131). -/
def execRorAbx (w : Word) (s : State) : Outcome := runInstr cfg 0x7E (.abx w) opROR s

/-- INC (R194). -/
def opINC (m : Mode) (s : State) : State × Bool :=
  let s := fetch m s
  let s := s.setTemp (zext16 s.fetched + 1)
  ((s.memWrite s.addrAbs (lo s.temp)).setZN (lo s.temp), false)

/-- 0xE6 INC ZP0 (R194, R126). -/
def execIncZp0 (z : Byte) (s : State) : Outcome := runInstr cfg 0xE6 (.zp0 z) opINC s

/-- 0xEE INC ABS (R194, R130). -/
def execIncAbs (w : Word) (s : State) : Outcome := runInstr cfg 0xEE (.abs w) opINC s

/-- 0xF6 INC ZPX (R194, R127). -/
def execIncZpx (z : Byte) (s : State) : Outcome := runInstr cfg 0xF6 (.zpx z) opINC s

/-- 0xFE INC ABX (R194, R131). -/
def execIncAbx (w : Word) (s : State) : Outcome := runInstr cfg 0xFE (.abx w) opINC s

/-- DEC (R195). -/
def opDEC (m : Mode) (s : State) : State × Bool :=
  let s := fetch m s
  let s := s.setTemp (zext16 s.fetched - 1)
  ((s.memWrite s.addrAbs (lo s.temp)).setZN (lo s.temp), false)

/-- 0xC6 DEC ZP0 (R195, R126). -/
def execDecZp0 (z : Byte) (s : State) : Outcome := runInstr cfg 0xC6 (.zp0 z) opDEC s

/-- 0xCE DEC ABS (R195, R130). -/
def execDecAbs (w : Word) (s : State) : Outcome := runInstr cfg 0xCE (.abs w) opDEC s

/-- 0xD6 DEC ZPX (R195, R127). -/
def execDecZpx (z : Byte) (s : State) : Outcome := runInstr cfg 0xD6 (.zpx z) opDEC s

/-- 0xDE DEC ABX (R195, R131). -/
def execDecAbx (w : Word) (s : State) : Outcome := runInstr cfg 0xDE (.abx w) opDEC s

/-- INX (R196). -/
def opINX (_ : Mode) (s : State) : State × Bool := ((s.setX (s.X + 1)).setZN (s.X + 1), false)

/-- 0xE8 INX IMP (R196, R124). -/
def execInx (s : State) : Outcome := runInstr cfg 0xE8 .imp opINX s

/-- INY (R197). -/
def opINY (_ : Mode) (s : State) : State × Bool := ((s.setY (s.Y + 1)).setZN (s.Y + 1), false)

/-- 0xC8 INY IMP (R197, R124). -/
def execIny (s : State) : Outcome := runInstr cfg 0xC8 .imp opINY s

/-- DEX (R198). -/
def opDEX (_ : Mode) (s : State) : State × Bool := ((s.setX (s.X - 1)).setZN (s.X - 1), false)

/-- 0xCA DEX IMP (R198, R124). -/
def execDex (s : State) : Outcome := runInstr cfg 0xCA .imp opDEX s

/-- DEY (R199). -/
def opDEY (_ : Mode) (s : State) : State × Bool := ((s.setY (s.Y - 1)).setZN (s.Y - 1), false)

/-- 0x88 DEY IMP (R199, R124). -/
def execDey (s : State) : Outcome := runInstr cfg 0x88 .imp opDEY s

end Sys2Proof.Machine
end

