-- ==== Sys2Proof/Machine/StackFlags.lean ====
section
/-! DEFINITION. Stack and flag instructions (45_stack_flags_system.md): each operation, then
one meaning for each row of the opcode table. -/

namespace Sys2Proof.Machine

/-- PHA (R230). -/
def opPHA (_ : Mode) (s : State) : State × Bool := (s.push s.A, false)

/-- 0x48 PHA IMP (R230, R124). -/
def execPha (s : State) : Outcome := runInstr cfg 0x48 .imp opPHA s

/-- PHP (R231). Bits 4 and 5 are forced to 1 in the pushed byte only. -/
def opPHP (_ : Mode) (s : State) : State × Bool := (s.push (s.P ||| 0x30), false)

/-- 0x08 PHP IMP (R231, R124). -/
def execPhp (s : State) : Outcome := runInstr cfg 0x08 .imp opPHP s

/-- PLA (R232). -/
def opPLA (_ : Mode) (s : State) : State × Bool :=
  let r := s.pull
  ((r.2.setA r.1).setZN r.1, false)

/-- 0x68 PLA IMP (R232, R124). -/
def execPla (s : State) : Outcome := runInstr cfg 0x68 .imp opPLA s

/-- PLP (R233). All bits come from the pulled byte, then `U` is 1. -/
def opPLP (_ : Mode) (s : State) : State × Bool :=
  let r := s.pull
  ((r.2.setP r.1).setFlag .U true, false)

/-- 0x28 PLP IMP (R233, R124). -/
def execPlp (s : State) : Outcome := runInstr cfg 0x28 .imp opPLP s

/-- CLC (R234). -/
def opCLC (_ : Mode) (s : State) : State × Bool := (s.setFlag .C false, false)

/-- 0x18 CLC IMP (R234, R124). -/
def execClc (s : State) : Outcome := runInstr cfg 0x18 .imp opCLC s

/-- CLD (R235). -/
def opCLD (_ : Mode) (s : State) : State × Bool := (s.setFlag .D false, false)

/-- 0xD8 CLD IMP (R235, R124). -/
def execCld (s : State) : Outcome := runInstr cfg 0xD8 .imp opCLD s

/-- CLI (R236). -/
def opCLI (_ : Mode) (s : State) : State × Bool := (s.setFlag .I false, false)

/-- 0x58 CLI IMP (R236, R124). -/
def execCli (s : State) : Outcome := runInstr cfg 0x58 .imp opCLI s

/-- CLV (R237). -/
def opCLV (_ : Mode) (s : State) : State × Bool := (s.setFlag .V false, false)

/-- 0xB8 CLV IMP (R237, R124). -/
def execClv (s : State) : Outcome := runInstr cfg 0xB8 .imp opCLV s

/-- SEC (R238). -/
def opSEC (_ : Mode) (s : State) : State × Bool := (s.setFlag .C true, false)

/-- 0x38 SEC IMP (R238, R124). -/
def execSec (s : State) : Outcome := runInstr cfg 0x38 .imp opSEC s

/-- SED (R239). -/
def opSED (_ : Mode) (s : State) : State × Bool := (s.setFlag .D true, false)

/-- 0xF8 SED IMP (R239, R124). -/
def execSed (s : State) : Outcome := runInstr cfg 0xF8 .imp opSED s

/-- SEI (R240). -/
def opSEI (_ : Mode) (s : State) : State × Bool := (s.setFlag .I true, false)

/-- 0x78 SEI IMP (R240, R124). -/
def execSei (s : State) : Outcome := runInstr cfg 0x78 .imp opSEI s

end Sys2Proof.Machine
end

