-- ==== Sys2Proof/Machine/System.lean ====
section
/-! DEFINITION. System instructions (45_stack_flags_system.md): BRK, RTI, the documented NOP, and the 105 undocumented
slots, whose operation is configuration (30_encoding.md R97, R98). Each operation, then one meaning for each row of the
opcode table. -/

namespace Sys2Proof.Machine

/-- BRK (R241). The byte after the opcode is skipped; `I` and `B` are set for the pushed byte, the live `B` is cleared. -/
def opBRK (_ : Mode) (s : State) : State × Bool :=
  ((s.setPC (s.PC + 1)).enterTrap true vectorIRQ, false)

/-- 0x00 BRK IMP (R241, R124). -/
def execBrk (s : State) : Outcome := runInstr cfg 0x00 .imp opBRK s

/-- RTI (R242). Nothing is added to the pulled address. -/
def opRTI (_ : Mode) (s : State) : State × Bool := (s.returnFromTrap, false)

/-- 0x40 RTI IMP (R242, R124). -/
def execRti (s : State) : Outcome := runInstr cfg 0x40 .imp opRTI s

/-- NOP (R243). The signal is returned for the bytes of `CFG.nop_extra`. -/
def opNOP (c : Config) (_ : Mode) (s : State) : State × Bool := (s, c.nopExtra.contains s.opcode)

/-- XXX (R244). The catch-all: no effect. -/
def opXXX (_ : Mode) (s : State) : State × Bool := (s, false)

/-- The operation of an undocumented slot, which `CFG.undoc_op` chooses (00_scope.md R5; 30_encoding.md R97). -/
def opUndoc (c : Config) (opc : Byte) : Mode → State → State × Bool :=
  match c.undocOp opc with
  | .NOP => opNOP c
  | .XXX => opXXX

/-- 0x04, by default NOP IMP (R97, R243, R124). -/
def execNop04 (s : State) : Outcome := runInstr cfg 0x04 .imp (opUndoc cfg 0x04) s

/-- 0x0C, by default NOP IMP (R97, R243, R124). -/
def execNop0C (s : State) : Outcome := runInstr cfg 0x0C .imp (opUndoc cfg 0x0C) s

/-- 0x14, by default NOP IMP (R97, R243, R124). -/
def execNop14 (s : State) : Outcome := runInstr cfg 0x14 .imp (opUndoc cfg 0x14) s

/-- 0x1A, by default NOP IMP (R97, R243, R124). -/
def execNop1A (s : State) : Outcome := runInstr cfg 0x1A .imp (opUndoc cfg 0x1A) s

/-- 0x1C, by default NOP IMP (R97, R243, R124). -/
def execNop1C (s : State) : Outcome := runInstr cfg 0x1C .imp (opUndoc cfg 0x1C) s

/-- 0x34, by default NOP IMP (R97, R243, R124). -/
def execNop34 (s : State) : Outcome := runInstr cfg 0x34 .imp (opUndoc cfg 0x34) s

/-- 0x3A, by default NOP IMP (R97, R243, R124). -/
def execNop3A (s : State) : Outcome := runInstr cfg 0x3A .imp (opUndoc cfg 0x3A) s

/-- 0x3C, by default NOP IMP (R97, R243, R124). -/
def execNop3C (s : State) : Outcome := runInstr cfg 0x3C .imp (opUndoc cfg 0x3C) s

/-- 0x44, by default NOP IMP (R97, R243, R124). -/
def execNop44 (s : State) : Outcome := runInstr cfg 0x44 .imp (opUndoc cfg 0x44) s

/-- 0x54, by default NOP IMP (R97, R243, R124). -/
def execNop54 (s : State) : Outcome := runInstr cfg 0x54 .imp (opUndoc cfg 0x54) s

/-- 0x5A, by default NOP IMP (R97, R243, R124). -/
def execNop5A (s : State) : Outcome := runInstr cfg 0x5A .imp (opUndoc cfg 0x5A) s

/-- 0x5C, by default NOP IMP (R97, R243, R124). -/
def execNop5C (s : State) : Outcome := runInstr cfg 0x5C .imp (opUndoc cfg 0x5C) s

/-- 0x64, by default NOP IMP (R97, R243, R124). -/
def execNop64 (s : State) : Outcome := runInstr cfg 0x64 .imp (opUndoc cfg 0x64) s

/-- 0x74, by default NOP IMP (R97, R243, R124). -/
def execNop74 (s : State) : Outcome := runInstr cfg 0x74 .imp (opUndoc cfg 0x74) s

/-- 0x7A, by default NOP IMP (R97, R243, R124). -/
def execNop7A (s : State) : Outcome := runInstr cfg 0x7A .imp (opUndoc cfg 0x7A) s

/-- 0x7C, by default NOP IMP (R97, R243, R124). -/
def execNop7C (s : State) : Outcome := runInstr cfg 0x7C .imp (opUndoc cfg 0x7C) s

/-- 0x80, by default NOP IMP (R97, R243, R124). -/
def execNop80 (s : State) : Outcome := runInstr cfg 0x80 .imp (opUndoc cfg 0x80) s

/-- 0x82, by default NOP IMP (R97, R243, R124). -/
def execNop82 (s : State) : Outcome := runInstr cfg 0x82 .imp (opUndoc cfg 0x82) s

/-- 0x89, by default NOP IMP (R97, R243, R124). -/
def execNop89 (s : State) : Outcome := runInstr cfg 0x89 .imp (opUndoc cfg 0x89) s

/-- 0x9C, by default NOP IMP (R97, R243, R124). -/
def execNop9C (s : State) : Outcome := runInstr cfg 0x9C .imp (opUndoc cfg 0x9C) s

/-- 0xC2, by default NOP IMP (R97, R243, R124). -/
def execNopC2 (s : State) : Outcome := runInstr cfg 0xC2 .imp (opUndoc cfg 0xC2) s

/-- 0xD4, by default NOP IMP (R97, R243, R124). -/
def execNopD4 (s : State) : Outcome := runInstr cfg 0xD4 .imp (opUndoc cfg 0xD4) s

/-- 0xDA, by default NOP IMP (R97, R243, R124). -/
def execNopDA (s : State) : Outcome := runInstr cfg 0xDA .imp (opUndoc cfg 0xDA) s

/-- 0xDC, by default NOP IMP (R97, R243, R124). -/
def execNopDC (s : State) : Outcome := runInstr cfg 0xDC .imp (opUndoc cfg 0xDC) s

/-- 0xE2, by default NOP IMP (R97, R243, R124). -/
def execNopE2 (s : State) : Outcome := runInstr cfg 0xE2 .imp (opUndoc cfg 0xE2) s

/-- 0xEA NOP IMP (R243, R124). -/
def execNop (s : State) : Outcome := runInstr cfg 0xEA .imp (opNOP cfg) s

/-- 0xF4, by default NOP IMP (R97, R243, R124). -/
def execNopF4 (s : State) : Outcome := runInstr cfg 0xF4 .imp (opUndoc cfg 0xF4) s

/-- 0xFA, by default NOP IMP (R97, R243, R124). -/
def execNopFA (s : State) : Outcome := runInstr cfg 0xFA .imp (opUndoc cfg 0xFA) s

/-- 0xFC, by default NOP IMP (R97, R243, R124). -/
def execNopFC (s : State) : Outcome := runInstr cfg 0xFC .imp (opUndoc cfg 0xFC) s

/-- 0x02, by default XXX IMP (R97, R244, R124). -/
def execXxx02 (s : State) : Outcome := runInstr cfg 0x02 .imp (opUndoc cfg 0x02) s

/-- 0x03, by default XXX IMP (R97, R244, R124). -/
def execXxx03 (s : State) : Outcome := runInstr cfg 0x03 .imp (opUndoc cfg 0x03) s

/-- 0x07, by default XXX IMP (R97, R244, R124). -/
def execXxx07 (s : State) : Outcome := runInstr cfg 0x07 .imp (opUndoc cfg 0x07) s

/-- 0x0B, by default XXX IMP (R97, R244, R124). -/
def execXxx0B (s : State) : Outcome := runInstr cfg 0x0B .imp (opUndoc cfg 0x0B) s

/-- 0x0F, by default XXX IMP (R97, R244, R124). -/
def execXxx0F (s : State) : Outcome := runInstr cfg 0x0F .imp (opUndoc cfg 0x0F) s

/-- 0x12, by default XXX IMP (R97, R244, R124). -/
def execXxx12 (s : State) : Outcome := runInstr cfg 0x12 .imp (opUndoc cfg 0x12) s

/-- 0x13, by default XXX IMP (R97, R244, R124). -/
def execXxx13 (s : State) : Outcome := runInstr cfg 0x13 .imp (opUndoc cfg 0x13) s

/-- 0x17, by default XXX IMP (R97, R244, R124). -/
def execXxx17 (s : State) : Outcome := runInstr cfg 0x17 .imp (opUndoc cfg 0x17) s

/-- 0x1B, by default XXX IMP (R97, R244, R124). -/
def execXxx1B (s : State) : Outcome := runInstr cfg 0x1B .imp (opUndoc cfg 0x1B) s

/-- 0x1F, by default XXX IMP (R97, R244, R124). -/
def execXxx1F (s : State) : Outcome := runInstr cfg 0x1F .imp (opUndoc cfg 0x1F) s

/-- 0x22, by default XXX IMP (R97, R244, R124). -/
def execXxx22 (s : State) : Outcome := runInstr cfg 0x22 .imp (opUndoc cfg 0x22) s

/-- 0x23, by default XXX IMP (R97, R244, R124). -/
def execXxx23 (s : State) : Outcome := runInstr cfg 0x23 .imp (opUndoc cfg 0x23) s

/-- 0x27, by default XXX IMP (R97, R244, R124). -/
def execXxx27 (s : State) : Outcome := runInstr cfg 0x27 .imp (opUndoc cfg 0x27) s

/-- 0x2B, by default XXX IMP (R97, R244, R124). -/
def execXxx2B (s : State) : Outcome := runInstr cfg 0x2B .imp (opUndoc cfg 0x2B) s

/-- 0x2F, by default XXX IMP (R97, R244, R124). -/
def execXxx2F (s : State) : Outcome := runInstr cfg 0x2F .imp (opUndoc cfg 0x2F) s

/-- 0x32, by default XXX IMP (R97, R244, R124). -/
def execXxx32 (s : State) : Outcome := runInstr cfg 0x32 .imp (opUndoc cfg 0x32) s

/-- 0x33, by default XXX IMP (R97, R244, R124). -/
def execXxx33 (s : State) : Outcome := runInstr cfg 0x33 .imp (opUndoc cfg 0x33) s

/-- 0x37, by default XXX IMP (R97, R244, R124). -/
def execXxx37 (s : State) : Outcome := runInstr cfg 0x37 .imp (opUndoc cfg 0x37) s

/-- 0x3B, by default XXX IMP (R97, R244, R124). -/
def execXxx3B (s : State) : Outcome := runInstr cfg 0x3B .imp (opUndoc cfg 0x3B) s

/-- 0x3F, by default XXX IMP (R97, R244, R124). -/
def execXxx3F (s : State) : Outcome := runInstr cfg 0x3F .imp (opUndoc cfg 0x3F) s

/-- 0x42, by default XXX IMP (R97, R244, R124). -/
def execXxx42 (s : State) : Outcome := runInstr cfg 0x42 .imp (opUndoc cfg 0x42) s

/-- 0x43, by default XXX IMP (R97, R244, R124). -/
def execXxx43 (s : State) : Outcome := runInstr cfg 0x43 .imp (opUndoc cfg 0x43) s

/-- 0x47, by default XXX IMP (R97, R244, R124). -/
def execXxx47 (s : State) : Outcome := runInstr cfg 0x47 .imp (opUndoc cfg 0x47) s

/-- 0x4B, by default XXX IMP (R97, R244, R124). -/
def execXxx4B (s : State) : Outcome := runInstr cfg 0x4B .imp (opUndoc cfg 0x4B) s

/-- 0x4F, by default XXX IMP (R97, R244, R124). -/
def execXxx4F (s : State) : Outcome := runInstr cfg 0x4F .imp (opUndoc cfg 0x4F) s

/-- 0x52, by default XXX IMP (R97, R244, R124). -/
def execXxx52 (s : State) : Outcome := runInstr cfg 0x52 .imp (opUndoc cfg 0x52) s

/-- 0x53, by default XXX IMP (R97, R244, R124). -/
def execXxx53 (s : State) : Outcome := runInstr cfg 0x53 .imp (opUndoc cfg 0x53) s

/-- 0x57, by default XXX IMP (R97, R244, R124). -/
def execXxx57 (s : State) : Outcome := runInstr cfg 0x57 .imp (opUndoc cfg 0x57) s

/-- 0x5B, by default XXX IMP (R97, R244, R124). -/
def execXxx5B (s : State) : Outcome := runInstr cfg 0x5B .imp (opUndoc cfg 0x5B) s

/-- 0x5F, by default XXX IMP (R97, R244, R124). -/
def execXxx5F (s : State) : Outcome := runInstr cfg 0x5F .imp (opUndoc cfg 0x5F) s

/-- 0x62, by default XXX IMP (R97, R244, R124). -/
def execXxx62 (s : State) : Outcome := runInstr cfg 0x62 .imp (opUndoc cfg 0x62) s

/-- 0x63, by default XXX IMP (R97, R244, R124). -/
def execXxx63 (s : State) : Outcome := runInstr cfg 0x63 .imp (opUndoc cfg 0x63) s

/-- 0x67, by default XXX IMP (R97, R244, R124). -/
def execXxx67 (s : State) : Outcome := runInstr cfg 0x67 .imp (opUndoc cfg 0x67) s

/-- 0x6B, by default XXX IMP (R97, R244, R124). -/
def execXxx6B (s : State) : Outcome := runInstr cfg 0x6B .imp (opUndoc cfg 0x6B) s

/-- 0x6F, by default XXX IMP (R97, R244, R124). -/
def execXxx6F (s : State) : Outcome := runInstr cfg 0x6F .imp (opUndoc cfg 0x6F) s

/-- 0x72, by default XXX IMP (R97, R244, R124). -/
def execXxx72 (s : State) : Outcome := runInstr cfg 0x72 .imp (opUndoc cfg 0x72) s

/-- 0x73, by default XXX IMP (R97, R244, R124). -/
def execXxx73 (s : State) : Outcome := runInstr cfg 0x73 .imp (opUndoc cfg 0x73) s

/-- 0x77, by default XXX IMP (R97, R244, R124). -/
def execXxx77 (s : State) : Outcome := runInstr cfg 0x77 .imp (opUndoc cfg 0x77) s

/-- 0x7B, by default XXX IMP (R97, R244, R124). -/
def execXxx7B (s : State) : Outcome := runInstr cfg 0x7B .imp (opUndoc cfg 0x7B) s

/-- 0x7F, by default XXX IMP (R97, R244, R124). -/
def execXxx7F (s : State) : Outcome := runInstr cfg 0x7F .imp (opUndoc cfg 0x7F) s

/-- 0x83, by default XXX IMP (R97, R244, R124). -/
def execXxx83 (s : State) : Outcome := runInstr cfg 0x83 .imp (opUndoc cfg 0x83) s

/-- 0x87, by default XXX IMP (R97, R244, R124). -/
def execXxx87 (s : State) : Outcome := runInstr cfg 0x87 .imp (opUndoc cfg 0x87) s

/-- 0x8B, by default XXX IMP (R97, R244, R124). -/
def execXxx8B (s : State) : Outcome := runInstr cfg 0x8B .imp (opUndoc cfg 0x8B) s

/-- 0x8F, by default XXX IMP (R97, R244, R124). -/
def execXxx8F (s : State) : Outcome := runInstr cfg 0x8F .imp (opUndoc cfg 0x8F) s

/-- 0x92, by default XXX IMP (R97, R244, R124). -/
def execXxx92 (s : State) : Outcome := runInstr cfg 0x92 .imp (opUndoc cfg 0x92) s

/-- 0x93, by default XXX IMP (R97, R244, R124). -/
def execXxx93 (s : State) : Outcome := runInstr cfg 0x93 .imp (opUndoc cfg 0x93) s

/-- 0x97, by default XXX IMP (R97, R244, R124). -/
def execXxx97 (s : State) : Outcome := runInstr cfg 0x97 .imp (opUndoc cfg 0x97) s

/-- 0x9B, by default XXX IMP (R97, R244, R124). -/
def execXxx9B (s : State) : Outcome := runInstr cfg 0x9B .imp (opUndoc cfg 0x9B) s

/-- 0x9E, by default XXX IMP (R97, R244, R124). -/
def execXxx9E (s : State) : Outcome := runInstr cfg 0x9E .imp (opUndoc cfg 0x9E) s

/-- 0x9F, by default XXX IMP (R97, R244, R124). -/
def execXxx9F (s : State) : Outcome := runInstr cfg 0x9F .imp (opUndoc cfg 0x9F) s

/-- 0xA3, by default XXX IMP (R97, R244, R124). -/
def execXxxA3 (s : State) : Outcome := runInstr cfg 0xA3 .imp (opUndoc cfg 0xA3) s

/-- 0xA7, by default XXX IMP (R97, R244, R124). -/
def execXxxA7 (s : State) : Outcome := runInstr cfg 0xA7 .imp (opUndoc cfg 0xA7) s

/-- 0xAB, by default XXX IMP (R97, R244, R124). -/
def execXxxAB (s : State) : Outcome := runInstr cfg 0xAB .imp (opUndoc cfg 0xAB) s

/-- 0xAF, by default XXX IMP (R97, R244, R124). -/
def execXxxAF (s : State) : Outcome := runInstr cfg 0xAF .imp (opUndoc cfg 0xAF) s

/-- 0xB2, by default XXX IMP (R97, R244, R124). -/
def execXxxB2 (s : State) : Outcome := runInstr cfg 0xB2 .imp (opUndoc cfg 0xB2) s

/-- 0xB3, by default XXX IMP (R97, R244, R124). -/
def execXxxB3 (s : State) : Outcome := runInstr cfg 0xB3 .imp (opUndoc cfg 0xB3) s

/-- 0xB7, by default XXX IMP (R97, R244, R124). -/
def execXxxB7 (s : State) : Outcome := runInstr cfg 0xB7 .imp (opUndoc cfg 0xB7) s

/-- 0xBB, by default XXX IMP (R97, R244, R124). -/
def execXxxBB (s : State) : Outcome := runInstr cfg 0xBB .imp (opUndoc cfg 0xBB) s

/-- 0xBF, by default XXX IMP (R97, R244, R124). -/
def execXxxBF (s : State) : Outcome := runInstr cfg 0xBF .imp (opUndoc cfg 0xBF) s

/-- 0xC3, by default XXX IMP (R97, R244, R124). -/
def execXxxC3 (s : State) : Outcome := runInstr cfg 0xC3 .imp (opUndoc cfg 0xC3) s

/-- 0xC7, by default XXX IMP (R97, R244, R124). -/
def execXxxC7 (s : State) : Outcome := runInstr cfg 0xC7 .imp (opUndoc cfg 0xC7) s

/-- 0xCB, by default XXX IMP (R97, R244, R124). -/
def execXxxCB (s : State) : Outcome := runInstr cfg 0xCB .imp (opUndoc cfg 0xCB) s

/-- 0xCF, by default XXX IMP (R97, R244, R124). -/
def execXxxCF (s : State) : Outcome := runInstr cfg 0xCF .imp (opUndoc cfg 0xCF) s

/-- 0xD2, by default XXX IMP (R97, R244, R124). -/
def execXxxD2 (s : State) : Outcome := runInstr cfg 0xD2 .imp (opUndoc cfg 0xD2) s

/-- 0xD3, by default XXX IMP (R97, R244, R124). -/
def execXxxD3 (s : State) : Outcome := runInstr cfg 0xD3 .imp (opUndoc cfg 0xD3) s

/-- 0xD7, by default XXX IMP (R97, R244, R124). -/
def execXxxD7 (s : State) : Outcome := runInstr cfg 0xD7 .imp (opUndoc cfg 0xD7) s

/-- 0xDB, by default XXX IMP (R97, R244, R124). -/
def execXxxDB (s : State) : Outcome := runInstr cfg 0xDB .imp (opUndoc cfg 0xDB) s

/-- 0xDF, by default XXX IMP (R97, R244, R124). -/
def execXxxDF (s : State) : Outcome := runInstr cfg 0xDF .imp (opUndoc cfg 0xDF) s

/-- 0xE3, by default XXX IMP (R97, R244, R124). -/
def execXxxE3 (s : State) : Outcome := runInstr cfg 0xE3 .imp (opUndoc cfg 0xE3) s

/-- 0xE7, by default XXX IMP (R97, R244, R124). -/
def execXxxE7 (s : State) : Outcome := runInstr cfg 0xE7 .imp (opUndoc cfg 0xE7) s

/-- 0xEB, by default XXX IMP (R97, R244, R124). -/
def execXxxEB (s : State) : Outcome := runInstr cfg 0xEB .imp (opUndoc cfg 0xEB) s

/-- 0xEF, by default XXX IMP (R97, R244, R124). -/
def execXxxEF (s : State) : Outcome := runInstr cfg 0xEF .imp (opUndoc cfg 0xEF) s

/-- 0xF2, by default XXX IMP (R97, R244, R124). -/
def execXxxF2 (s : State) : Outcome := runInstr cfg 0xF2 .imp (opUndoc cfg 0xF2) s

/-- 0xF3, by default XXX IMP (R97, R244, R124). -/
def execXxxF3 (s : State) : Outcome := runInstr cfg 0xF3 .imp (opUndoc cfg 0xF3) s

/-- 0xF7, by default XXX IMP (R97, R244, R124). -/
def execXxxF7 (s : State) : Outcome := runInstr cfg 0xF7 .imp (opUndoc cfg 0xF7) s

/-- 0xFB, by default XXX IMP (R97, R244, R124). -/
def execXxxFB (s : State) : Outcome := runInstr cfg 0xFB .imp (opUndoc cfg 0xFB) s

/-- 0xFF, by default XXX IMP (R97, R244, R124). -/
def execXxxFF (s : State) : Outcome := runInstr cfg 0xFF .imp (opUndoc cfg 0xFF) s

end Sys2Proof.Machine
end

