-- ==== Sys2Proof/Machine/Dispatch.lean ====
section
/-! DEFINITION. The dispatch from an instruction to its meaning, one arm for each row of the opcode table. -/

namespace Sys2Proof.Machine

def exec (i : Instr) (s : State) : Host.Outcome State Fault Refusal :=
  match i with
  | .ldaIzx z => Sys2Proof.Machine.execLdaIzx z s
  | .ldaZp0 z => Sys2Proof.Machine.execLdaZp0 z s
  | .ldaImm v => Sys2Proof.Machine.execLdaImm v s
  | .ldaAbs w => Sys2Proof.Machine.execLdaAbs w s
  | .ldaIzy z => Sys2Proof.Machine.execLdaIzy z s
  | .ldaZpx z => Sys2Proof.Machine.execLdaZpx z s
  | .ldaAby w => Sys2Proof.Machine.execLdaAby w s
  | .ldaAbx w => Sys2Proof.Machine.execLdaAbx w s
  | .ldxImm v => Sys2Proof.Machine.execLdxImm v s
  | .ldxZp0 z => Sys2Proof.Machine.execLdxZp0 z s
  | .ldxAbs w => Sys2Proof.Machine.execLdxAbs w s
  | .ldxZpy z => Sys2Proof.Machine.execLdxZpy z s
  | .ldxAby w => Sys2Proof.Machine.execLdxAby w s
  | .ldyImm v => Sys2Proof.Machine.execLdyImm v s
  | .ldyZp0 z => Sys2Proof.Machine.execLdyZp0 z s
  | .ldyAbs w => Sys2Proof.Machine.execLdyAbs w s
  | .ldyZpx z => Sys2Proof.Machine.execLdyZpx z s
  | .ldyAbx w => Sys2Proof.Machine.execLdyAbx w s
  | .staIzx z => Sys2Proof.Machine.execStaIzx z s
  | .staZp0 z => Sys2Proof.Machine.execStaZp0 z s
  | .staAbs w => Sys2Proof.Machine.execStaAbs w s
  | .staIzy z => Sys2Proof.Machine.execStaIzy z s
  | .staZpx z => Sys2Proof.Machine.execStaZpx z s
  | .staAby w => Sys2Proof.Machine.execStaAby w s
  | .staAbx w => Sys2Proof.Machine.execStaAbx w s
  | .stxZp0 z => Sys2Proof.Machine.execStxZp0 z s
  | .stxAbs w => Sys2Proof.Machine.execStxAbs w s
  | .stxZpy z => Sys2Proof.Machine.execStxZpy z s
  | .styZp0 z => Sys2Proof.Machine.execStyZp0 z s
  | .styAbs w => Sys2Proof.Machine.execStyAbs w s
  | .styZpx z => Sys2Proof.Machine.execStyZpx z s
  | .tax => Sys2Proof.Machine.execTax s
  | .tay => Sys2Proof.Machine.execTay s
  | .txa => Sys2Proof.Machine.execTxa s
  | .tya => Sys2Proof.Machine.execTya s
  | .tsx => Sys2Proof.Machine.execTsx s
  | .txs => Sys2Proof.Machine.execTxs s
  | .andIzx z => Sys2Proof.Machine.execAndIzx z s
  | .andZp0 z => Sys2Proof.Machine.execAndZp0 z s
  | .andImm v => Sys2Proof.Machine.execAndImm v s
  | .andAbs w => Sys2Proof.Machine.execAndAbs w s
  | .andIzy z => Sys2Proof.Machine.execAndIzy z s
  | .andZpx z => Sys2Proof.Machine.execAndZpx z s
  | .andAby w => Sys2Proof.Machine.execAndAby w s
  | .andAbx w => Sys2Proof.Machine.execAndAbx w s
  | .oraIzx z => Sys2Proof.Machine.execOraIzx z s
  | .oraZp0 z => Sys2Proof.Machine.execOraZp0 z s
  | .oraImm v => Sys2Proof.Machine.execOraImm v s
  | .oraAbs w => Sys2Proof.Machine.execOraAbs w s
  | .oraIzy z => Sys2Proof.Machine.execOraIzy z s
  | .oraZpx z => Sys2Proof.Machine.execOraZpx z s
  | .oraAby w => Sys2Proof.Machine.execOraAby w s
  | .oraAbx w => Sys2Proof.Machine.execOraAbx w s
  | .eorIzx z => Sys2Proof.Machine.execEorIzx z s
  | .eorZp0 z => Sys2Proof.Machine.execEorZp0 z s
  | .eorImm v => Sys2Proof.Machine.execEorImm v s
  | .eorAbs w => Sys2Proof.Machine.execEorAbs w s
  | .eorIzy z => Sys2Proof.Machine.execEorIzy z s
  | .eorZpx z => Sys2Proof.Machine.execEorZpx z s
  | .eorAby w => Sys2Proof.Machine.execEorAby w s
  | .eorAbx w => Sys2Proof.Machine.execEorAbx w s
  | .bitZp0 z => Sys2Proof.Machine.execBitZp0 z s
  | .bitAbs w => Sys2Proof.Machine.execBitAbs w s
  | .adcIzx z => Sys2Proof.Machine.execAdcIzx z s
  | .adcZp0 z => Sys2Proof.Machine.execAdcZp0 z s
  | .adcImm v => Sys2Proof.Machine.execAdcImm v s
  | .adcAbs w => Sys2Proof.Machine.execAdcAbs w s
  | .adcIzy z => Sys2Proof.Machine.execAdcIzy z s
  | .adcZpx z => Sys2Proof.Machine.execAdcZpx z s
  | .adcAby w => Sys2Proof.Machine.execAdcAby w s
  | .adcAbx w => Sys2Proof.Machine.execAdcAbx w s
  | .sbcIzx z => Sys2Proof.Machine.execSbcIzx z s
  | .sbcZp0 z => Sys2Proof.Machine.execSbcZp0 z s
  | .sbcImm v => Sys2Proof.Machine.execSbcImm v s
  | .sbcAbs w => Sys2Proof.Machine.execSbcAbs w s
  | .sbcIzy z => Sys2Proof.Machine.execSbcIzy z s
  | .sbcZpx z => Sys2Proof.Machine.execSbcZpx z s
  | .sbcAby w => Sys2Proof.Machine.execSbcAby w s
  | .sbcAbx w => Sys2Proof.Machine.execSbcAbx w s
  | .cmpIzx z => Sys2Proof.Machine.execCmpIzx z s
  | .cmpZp0 z => Sys2Proof.Machine.execCmpZp0 z s
  | .cmpImm v => Sys2Proof.Machine.execCmpImm v s
  | .cmpAbs w => Sys2Proof.Machine.execCmpAbs w s
  | .cmpIzy z => Sys2Proof.Machine.execCmpIzy z s
  | .cmpZpx z => Sys2Proof.Machine.execCmpZpx z s
  | .cmpAby w => Sys2Proof.Machine.execCmpAby w s
  | .cmpAbx w => Sys2Proof.Machine.execCmpAbx w s
  | .cpxImm v => Sys2Proof.Machine.execCpxImm v s
  | .cpxZp0 z => Sys2Proof.Machine.execCpxZp0 z s
  | .cpxAbs w => Sys2Proof.Machine.execCpxAbs w s
  | .cpyImm v => Sys2Proof.Machine.execCpyImm v s
  | .cpyZp0 z => Sys2Proof.Machine.execCpyZp0 z s
  | .cpyAbs w => Sys2Proof.Machine.execCpyAbs w s
  | .aslZp0 z => Sys2Proof.Machine.execAslZp0 z s
  | .aslImp => Sys2Proof.Machine.execAslImp s
  | .aslAbs w => Sys2Proof.Machine.execAslAbs w s
  | .aslZpx z => Sys2Proof.Machine.execAslZpx z s
  | .aslAbx w => Sys2Proof.Machine.execAslAbx w s
  | .lsrZp0 z => Sys2Proof.Machine.execLsrZp0 z s
  | .lsrImp => Sys2Proof.Machine.execLsrImp s
  | .lsrAbs w => Sys2Proof.Machine.execLsrAbs w s
  | .lsrZpx z => Sys2Proof.Machine.execLsrZpx z s
  | .lsrAbx w => Sys2Proof.Machine.execLsrAbx w s
  | .rolZp0 z => Sys2Proof.Machine.execRolZp0 z s
  | .rolImp => Sys2Proof.Machine.execRolImp s
  | .rolAbs w => Sys2Proof.Machine.execRolAbs w s
  | .rolZpx z => Sys2Proof.Machine.execRolZpx z s
  | .rolAbx w => Sys2Proof.Machine.execRolAbx w s
  | .rorZp0 z => Sys2Proof.Machine.execRorZp0 z s
  | .rorImp => Sys2Proof.Machine.execRorImp s
  | .rorAbs w => Sys2Proof.Machine.execRorAbs w s
  | .rorZpx z => Sys2Proof.Machine.execRorZpx z s
  | .rorAbx w => Sys2Proof.Machine.execRorAbx w s
  | .incZp0 z => Sys2Proof.Machine.execIncZp0 z s
  | .incAbs w => Sys2Proof.Machine.execIncAbs w s
  | .incZpx z => Sys2Proof.Machine.execIncZpx z s
  | .incAbx w => Sys2Proof.Machine.execIncAbx w s
  | .decZp0 z => Sys2Proof.Machine.execDecZp0 z s
  | .decAbs w => Sys2Proof.Machine.execDecAbs w s
  | .decZpx z => Sys2Proof.Machine.execDecZpx z s
  | .decAbx w => Sys2Proof.Machine.execDecAbx w s
  | .inx => Sys2Proof.Machine.execInx s
  | .iny => Sys2Proof.Machine.execIny s
  | .dex => Sys2Proof.Machine.execDex s
  | .dey => Sys2Proof.Machine.execDey s
  | .bcc d => Sys2Proof.Machine.execBcc d s
  | .bcs d => Sys2Proof.Machine.execBcs d s
  | .beq d => Sys2Proof.Machine.execBeq d s
  | .bne d => Sys2Proof.Machine.execBne d s
  | .bmi d => Sys2Proof.Machine.execBmi d s
  | .bpl d => Sys2Proof.Machine.execBpl d s
  | .bvc d => Sys2Proof.Machine.execBvc d s
  | .bvs d => Sys2Proof.Machine.execBvs d s
  | .jmpAbs w => Sys2Proof.Machine.execJmpAbs w s
  | .jmpInd w => Sys2Proof.Machine.execJmpInd w s
  | .jsr w => Sys2Proof.Machine.execJsr w s
  | .rts => Sys2Proof.Machine.execRts s
  | .pha => Sys2Proof.Machine.execPha s
  | .php => Sys2Proof.Machine.execPhp s
  | .pla => Sys2Proof.Machine.execPla s
  | .plp => Sys2Proof.Machine.execPlp s
  | .clc => Sys2Proof.Machine.execClc s
  | .cld => Sys2Proof.Machine.execCld s
  | .cli => Sys2Proof.Machine.execCli s
  | .clv => Sys2Proof.Machine.execClv s
  | .sec => Sys2Proof.Machine.execSec s
  | .sed => Sys2Proof.Machine.execSed s
  | .sei => Sys2Proof.Machine.execSei s
  | .brk => Sys2Proof.Machine.execBrk s
  | .rti => Sys2Proof.Machine.execRti s
  | .nop04 => Sys2Proof.Machine.execNop04 s
  | .nop0C => Sys2Proof.Machine.execNop0C s
  | .nop14 => Sys2Proof.Machine.execNop14 s
  | .nop1A => Sys2Proof.Machine.execNop1A s
  | .nop1C => Sys2Proof.Machine.execNop1C s
  | .nop34 => Sys2Proof.Machine.execNop34 s
  | .nop3A => Sys2Proof.Machine.execNop3A s
  | .nop3C => Sys2Proof.Machine.execNop3C s
  | .nop44 => Sys2Proof.Machine.execNop44 s
  | .nop54 => Sys2Proof.Machine.execNop54 s
  | .nop5A => Sys2Proof.Machine.execNop5A s
  | .nop5C => Sys2Proof.Machine.execNop5C s
  | .nop64 => Sys2Proof.Machine.execNop64 s
  | .nop74 => Sys2Proof.Machine.execNop74 s
  | .nop7A => Sys2Proof.Machine.execNop7A s
  | .nop7C => Sys2Proof.Machine.execNop7C s
  | .nop80 => Sys2Proof.Machine.execNop80 s
  | .nop82 => Sys2Proof.Machine.execNop82 s
  | .nop89 => Sys2Proof.Machine.execNop89 s
  | .nop9C => Sys2Proof.Machine.execNop9C s
  | .nopC2 => Sys2Proof.Machine.execNopC2 s
  | .nopD4 => Sys2Proof.Machine.execNopD4 s
  | .nopDA => Sys2Proof.Machine.execNopDA s
  | .nopDC => Sys2Proof.Machine.execNopDC s
  | .nopE2 => Sys2Proof.Machine.execNopE2 s
  | .nop => Sys2Proof.Machine.execNop s
  | .nopF4 => Sys2Proof.Machine.execNopF4 s
  | .nopFA => Sys2Proof.Machine.execNopFA s
  | .nopFC => Sys2Proof.Machine.execNopFC s
  | .xxx02 => Sys2Proof.Machine.execXxx02 s
  | .xxx03 => Sys2Proof.Machine.execXxx03 s
  | .xxx07 => Sys2Proof.Machine.execXxx07 s
  | .xxx0B => Sys2Proof.Machine.execXxx0B s
  | .xxx0F => Sys2Proof.Machine.execXxx0F s
  | .xxx12 => Sys2Proof.Machine.execXxx12 s
  | .xxx13 => Sys2Proof.Machine.execXxx13 s
  | .xxx17 => Sys2Proof.Machine.execXxx17 s
  | .xxx1B => Sys2Proof.Machine.execXxx1B s
  | .xxx1F => Sys2Proof.Machine.execXxx1F s
  | .xxx22 => Sys2Proof.Machine.execXxx22 s
  | .xxx23 => Sys2Proof.Machine.execXxx23 s
  | .xxx27 => Sys2Proof.Machine.execXxx27 s
  | .xxx2B => Sys2Proof.Machine.execXxx2B s
  | .xxx2F => Sys2Proof.Machine.execXxx2F s
  | .xxx32 => Sys2Proof.Machine.execXxx32 s
  | .xxx33 => Sys2Proof.Machine.execXxx33 s
  | .xxx37 => Sys2Proof.Machine.execXxx37 s
  | .xxx3B => Sys2Proof.Machine.execXxx3B s
  | .xxx3F => Sys2Proof.Machine.execXxx3F s
  | .xxx42 => Sys2Proof.Machine.execXxx42 s
  | .xxx43 => Sys2Proof.Machine.execXxx43 s
  | .xxx47 => Sys2Proof.Machine.execXxx47 s
  | .xxx4B => Sys2Proof.Machine.execXxx4B s
  | .xxx4F => Sys2Proof.Machine.execXxx4F s
  | .xxx52 => Sys2Proof.Machine.execXxx52 s
  | .xxx53 => Sys2Proof.Machine.execXxx53 s
  | .xxx57 => Sys2Proof.Machine.execXxx57 s
  | .xxx5B => Sys2Proof.Machine.execXxx5B s
  | .xxx5F => Sys2Proof.Machine.execXxx5F s
  | .xxx62 => Sys2Proof.Machine.execXxx62 s
  | .xxx63 => Sys2Proof.Machine.execXxx63 s
  | .xxx67 => Sys2Proof.Machine.execXxx67 s
  | .xxx6B => Sys2Proof.Machine.execXxx6B s
  | .xxx6F => Sys2Proof.Machine.execXxx6F s
  | .xxx72 => Sys2Proof.Machine.execXxx72 s
  | .xxx73 => Sys2Proof.Machine.execXxx73 s
  | .xxx77 => Sys2Proof.Machine.execXxx77 s
  | .xxx7B => Sys2Proof.Machine.execXxx7B s
  | .xxx7F => Sys2Proof.Machine.execXxx7F s
  | .xxx83 => Sys2Proof.Machine.execXxx83 s
  | .xxx87 => Sys2Proof.Machine.execXxx87 s
  | .xxx8B => Sys2Proof.Machine.execXxx8B s
  | .xxx8F => Sys2Proof.Machine.execXxx8F s
  | .xxx92 => Sys2Proof.Machine.execXxx92 s
  | .xxx93 => Sys2Proof.Machine.execXxx93 s
  | .xxx97 => Sys2Proof.Machine.execXxx97 s
  | .xxx9B => Sys2Proof.Machine.execXxx9B s
  | .xxx9E => Sys2Proof.Machine.execXxx9E s
  | .xxx9F => Sys2Proof.Machine.execXxx9F s
  | .xxxA3 => Sys2Proof.Machine.execXxxA3 s
  | .xxxA7 => Sys2Proof.Machine.execXxxA7 s
  | .xxxAB => Sys2Proof.Machine.execXxxAB s
  | .xxxAF => Sys2Proof.Machine.execXxxAF s
  | .xxxB2 => Sys2Proof.Machine.execXxxB2 s
  | .xxxB3 => Sys2Proof.Machine.execXxxB3 s
  | .xxxB7 => Sys2Proof.Machine.execXxxB7 s
  | .xxxBB => Sys2Proof.Machine.execXxxBB s
  | .xxxBF => Sys2Proof.Machine.execXxxBF s
  | .xxxC3 => Sys2Proof.Machine.execXxxC3 s
  | .xxxC7 => Sys2Proof.Machine.execXxxC7 s
  | .xxxCB => Sys2Proof.Machine.execXxxCB s
  | .xxxCF => Sys2Proof.Machine.execXxxCF s
  | .xxxD2 => Sys2Proof.Machine.execXxxD2 s
  | .xxxD3 => Sys2Proof.Machine.execXxxD3 s
  | .xxxD7 => Sys2Proof.Machine.execXxxD7 s
  | .xxxDB => Sys2Proof.Machine.execXxxDB s
  | .xxxDF => Sys2Proof.Machine.execXxxDF s
  | .xxxE3 => Sys2Proof.Machine.execXxxE3 s
  | .xxxE7 => Sys2Proof.Machine.execXxxE7 s
  | .xxxEB => Sys2Proof.Machine.execXxxEB s
  | .xxxEF => Sys2Proof.Machine.execXxxEF s
  | .xxxF2 => Sys2Proof.Machine.execXxxF2 s
  | .xxxF3 => Sys2Proof.Machine.execXxxF3 s
  | .xxxF7 => Sys2Proof.Machine.execXxxF7 s
  | .xxxFB => Sys2Proof.Machine.execXxxFB s
  | .xxxFF => Sys2Proof.Machine.execXxxFF s

end Sys2Proof.Machine
end

