-- ==== Sys2Proof/Machine/Step.lean ====
section
/-! DEFINITION. The step: one `Clock` event (40_step_and_addressing.md R120), and the placing of an instruction where the
next step fetches it. -/

namespace Sys2Proof.Machine

/-- One `Clock` event (R120, R121). -/
def step (s : State) : Host.Outcome State Fault Refusal := clockEvent exec s

/-- The state in which the very next step runs the instruction whose table word is `w`: its bytes stand at `PC`, and the
core is idle (after `Reset` it would first count down 8 events, 70_reset_and_hazards.md R304; log 3). -/
def State.withFetchWord (s : State) (nbits w : Nat) : State :=
  (s.placeBytes s.PC (tableBytes nbits w longest)).setCycles 0

end Sys2Proof.Machine
end

