-- ==== Sys2Proof/Machine/Configured.lean ====
section
/-! DEFINITION. The machine under any configuration `CFG` (00_scope.md R5): its base cycle counts, its split of the
undocumented slots and its list of NOP bytes with the signal. With the default `cfg` it is `exec` and `step`
(`exec_eq_execIn`, `step_eq_stepIn` in Laws/Exec.lean). -/

namespace Sys2Proof.Machine

/-- The operation an `Op` names. Only NOP looks at the configuration (45_stack_flags_system.md R243). -/
def opRun (c : Config) : Op → Mode → State → State × Bool
  | .LDA => opLDA
  | .LDX => opLDX
  | .LDY => opLDY
  | .STA => opSTA
  | .STX => opSTX
  | .STY => opSTY
  | .TAX => opTAX
  | .TAY => opTAY
  | .TXA => opTXA
  | .TYA => opTYA
  | .TSX => opTSX
  | .TXS => opTXS
  | .AND => opAND
  | .ORA => opORA
  | .EOR => opEOR
  | .BIT => opBIT
  | .ADC => opADC
  | .SBC => opSBC
  | .CMP => opCMP
  | .CPX => opCPX
  | .CPY => opCPY
  | .ASL => opASL
  | .LSR => opLSR
  | .ROL => opROL
  | .ROR => opROR
  | .INC => opINC
  | .DEC => opDEC
  | .INX => opINX
  | .INY => opINY
  | .DEX => opDEX
  | .DEY => opDEY
  | .BCC => opBCC
  | .BCS => opBCS
  | .BEQ => opBEQ
  | .BNE => opBNE
  | .BMI => opBMI
  | .BPL => opBPL
  | .BVC => opBVC
  | .BVS => opBVS
  | .JMP => opJMP
  | .JSR => opJSR
  | .RTS => opRTS
  | .PHA => opPHA
  | .PHP => opPHP
  | .PLA => opPLA
  | .PLP => opPLP
  | .CLC => opCLC
  | .CLD => opCLD
  | .CLI => opCLI
  | .CLV => opCLV
  | .SEC => opSEC
  | .SED => opSED
  | .SEI => opSEI
  | .BRK => opBRK
  | .RTI => opRTI
  | .NOP => opNOP c
  | .XXX => opXXX

/-- The meaning of an instruction under a configuration: its operation in its mode (40_step_and_addressing.md R120). -/
def execIn (c : Config) (i : Instr) (s : State) : Outcome :=
  runInstr c i.opcode i.mode (opRun c (i.opUnder c)) s

/-- One `Clock` event under a configuration. -/
def stepIn (c : Config) (s : State) : Outcome := clockEvent (execIn c) s

end Sys2Proof.Machine
end

