-- ==== Sys2Proof/Machine/Events.lean ====
section
/-! DEFINITION. The events the environment issues (00_scope.md R9; 20_memory.md R78). Each is atomic and can come between
any two others, in either phase (60_exceptions.md R280; 70_reset_and_hazards.md R305). `Clock` is `step`. The entry lengths are those of a
configuration (00_scope.md R5), the same in every well-formed one. -/

namespace Sys2Proof.Machine

/-- `Reset()` (70_reset_and_hazards.md R300). `opcode`, `temp` and memory keep their values. -/
def State.resetEvent (s : State) (c : Config) : State :=
  { s with
    PC := s.memWord vectorReset
    A := 0x00
    X := 0x00
    Y := 0x00
    SP := 0xFD
    P := 0x20
    addrRel := 0x0000
    addrAbs := 0x0000
    fetched := 0x00
    cycles := c.resetCycles
    clockCount := 0 }

/-- `Irq()` (60_exceptions.md R263): dropped without a trace when `P.I` is 1 (R265). -/
def State.irqEvent (s : State) (c : Config) : State :=
  if s.flag .I then s
  else ((s.enterTrap false vectorIRQ).setAddrAbs vectorIRQ).setCycles c.irqCycles

/-- `Nmi()` (60_exceptions.md R264). -/
def State.nmiEvent (s : State) (c : Config) : State :=
  ((s.enterTrap false vectorNMI).setAddrAbs vectorNMI).setCycles c.nmiCycles

/-- `HostWrite(a, v)` (20_memory.md R78). -/
def State.hostWrite (s : State) (a : Word) (v : Byte) : State := s.memWrite a v

inductive Event where
  | clock
  | reset
  | irq
  | nmi
  | hostWrite (a : Word) (v : Byte)
  deriving DecidableEq, Repr

/-- What an event does (00_scope.md R9), under a configuration and with `clock` as the `Clock` event. -/
def handleWith (c : Config) (clock : State → Outcome) (e : Event) (s : State) : Outcome :=
  match e with
  | .clock => clock s
  | .reset => .next (s.resetEvent c)
  | .irq => .next (s.irqEvent c)
  | .nmi => .next (s.nmiEvent c)
  | .hostWrite a v => .next (s.hostWrite a v)

def handle (e : Event) (s : State) : Outcome := handleWith cfg step e s

def handleIn (c : Config) (e : Event) (s : State) : Outcome := handleWith c (stepIn c) e s

/-- A sequence of events, in the order the host issues them (60_exceptions.md R267). -/
def runEvents (h : Event → State → Outcome) : List Event → State → Outcome
  | [], s => .next s
  | e :: es, s =>
    match h e s with
    | .next t => runEvents h es t
    | .fault r => .fault r
    | .refused r => .refused r

def handleAll (es : List Event) (s : State) : Outcome := runEvents handle es s

def handleAllIn (c : Config) (es : List Event) (s : State) : Outcome := runEvents (handleIn c) es s

/-- The order a pin-level wrapper takes when it samples several request lines on one clock edge (60_exceptions.md R267):
`Reset` alone, else `Clock`, then `Nmi`, then `Irq`. -/
def edgeEvents (rst nmi irq : Bool) : List Event :=
  if rst then [.reset]
  else [.clock] ++ (if nmi then [.nmi] else []) ++ (if irq then [.irq] else [])

end Sys2Proof.Machine
end

