-- ==== Sys2Proof/Safety.lean ====
section
/-! DEFINITION. The terms the statements are written in: the invariant of every state after the first `Reset`, what a
safe run is, and frames (what an instruction leaves unchanged). -/

namespace Sys2Proof.Machine

/-! Invariants and safe runs. -/

/-- What holds of every state after the first `Reset` (10_state.md R32, R38, R42): `U` reads as 1, memory has its
canonical form inside 0 to 0xFFFF, and the countdown is at most 8 with the default `CFG.base_cycles`. -/
abbrev State.inv (s : State) : Prop := s.flag .U = true ∧ s.M.wf ∧ s.cycles ≤ 8

/-- The core never stops: every sequence of events from `s` ends in a state, and one that meets the invariant. -/
def State.safe (s : State) : Prop := ∀ es : List Event, ∃ t, handleAll es s = .next t ∧ t.inv

/-! Frames. -/

/-- The 8-bit registers but `P` (10_state.md R20, R22). -/
inductive Reg where
  | A | X | Y | SP
  deriving DecidableEq, Repr

def State.reg (s : State) : Reg → Byte
  | .A => s.A
  | .X => s.X
  | .Y => s.Y
  | .SP => s.SP

/-- Every register but those listed holds in `t` what it held in `s`. -/
def keepsRegsBut (rs : List Reg) (s t : State) : Prop := ∀ r, r ∉ rs → t.reg r = s.reg r

/-- Every flag but `U` and those listed holds in `t` what it held in `s`, and `U` is 1 (10_state.md R29). -/
def keepsFlagsBut (fs : List Flag) (s t : State) : Prop :=
  t.flag .U = true ∧ ∀ f, f ≠ .U → f ∉ fs → t.flag f = s.flag f

/-- Every byte of memory but those at the listed addresses reads in `t` as it read in `s`. -/
def keepsMemBut (ws : List Word) (s t : State) : Prop := ∀ a, a ∉ ws → t.memRead a = s.memRead a

/-! What an instruction starts from and ends with. -/

/-- `i` is the table row with operation `o` and mode `m`, the bytes `bs` and the base cycle count `base`
(30_encoding.md R96, R97). -/
def tableRow (i : Instr) (o : Op) (m : Mode) (bs : List Byte) (base : Nat) : Prop :=
  i.op = o ∧ i.mode = m ∧ encode i = bs ∧ cfg.baseCycles i.opcode = base

/-- The address of the instruction after `i` when `i` stands at `PC` (10_state.md R21). -/
def nextPC (i : Instr) (s : State) : Word := s.PC + BitVec.ofNat 16 i.length

/-- The operand byte `Fetch` gives an instruction that starts in `s` (40_step_and_addressing.md R123): `A` in IMP, byte 1
of the instruction in IMM, otherwise the byte at the effective address. -/
def operandOf (m : Mode) (s : State) : Byte :=
  match m with
  | .imp => s.A
  | .imm v => v
  | .zp0 _ | .zpx _ | .zpy _ | .rel _ | .abs _ | .abx _ | .aby _ | .ind _ | .izx _ | .izy _ =>
    s.memRead (effAddr m s)

/-- `Z` and `N` are those of the byte `v` (00_scope.md R10). -/
def setsZN (t : State) (v : Byte) : Prop := t.flag .Z = decide (v = 0) ∧ t.flag .N = v.getLsbD 7

/-- The instruction goes on to the next one, and takes its base cycles and, when its operation returns the signal
`signal`, one more for a page cross (40_step_and_addressing.md R122, R138). -/
def goesOn (i : Instr) (s t : State) (signal : Bool) : Prop :=
  t.PC = nextPC i s ∧ t.cycles = cfg.baseCycles i.opcode + (signal && pageCross i.mode s).toNat

/-- The result `r` of a read-modify-write operation goes to `A` in IMP, otherwise to the byte at the effective address,
and to nothing else (43_shift_incdec.md section 1). -/
def writesBack (i : Instr) (s t : State) (r : Byte) : Prop :=
  if i.mode = .imp then t.A = r ∧ keepsRegsBut [.A] s t ∧ keepsMemBut [] s t
  else t.memRead (effAddr i.mode s) = r ∧ keepsRegsBut [] s t ∧ keepsMemBut [effAddr i.mode s] s t

/-- What a trap leaves (60_exceptions.md R268, R269): the return address `ret` and a status byte that tells BRK from the
others on the stack, `I` set, `B` clear, `PC` loaded from the vector `v`, and nothing else changed in the registers,
the flags and memory. -/
def trapTaken (s t : State) (ret : Word) (brk : Bool) (v : Word) : Prop :=
  t.SP = s.SP - 3 ∧
  t.memRead (stackAddr s.SP) = hi ret ∧
  t.memRead (stackAddr (s.SP - 1)) = lo ret ∧
  (∀ f, getFlag (t.memRead (stackAddr (s.SP - 2))) f =
    if f = .B then brk else if f = .I ∨ f = .U then true else s.flag f) ∧
  (∀ f, t.flag f = if f = .B then false else if f = .I ∨ f = .U then true else s.flag f) ∧
  t.PC = word (s.memRead (v + 1)) (s.memRead v) ∧
  keepsRegsBut [.SP] s t ∧
  keepsMemBut [stackAddr s.SP, stackAddr (s.SP - 1), stackAddr (s.SP - 2)] s t

end Sys2Proof.Machine
end

