-- ==== Sys2Proof/Certificates/Slice0/Obligations.lean ====
section
/-! DEFINITION. The statements about the model, for the provers. Each is a property of every state; where a value or a
behaviour is the model's own choice the docstring names the log entry. -/

open Sys2Proof Sys2Proof.Machine

/-- Decoding the encoding of an instruction gives it back, for all 256 rows and all operands (derived: 30_encoding.md
R90, 30_encoding.md R92, 30_encoding.md R96, 30_encoding.md R97). The opcode matrix is the spec's own choice
(D10, D12): log 5. -/
def Obligations.DecodeInvertsEncode : Prop :=
  ∀ (i : Instr) (rest : List Byte), i.wellFormed = true ∧ decode (encode i ++ rest) = .ok (i, rest)

/-- Whatever decodes to an instruction is its encoding (derived: 30_encoding.md R90, 30_encoding.md R95). The opcode
matrix is the spec's own choice (D10, D12): log 5. -/
def Obligations.DecodedBytesAreTheEncoding : Prop :=
  ∀ (bs : List Byte) (i : Instr) (rest : List Byte), decode bs = .ok (i, rest) → bs = encode i ++ rest

/-- No opcode byte is illegal, and the opcode byte alone fixes operation, mode and base cycles (derived:
30_encoding.md R95, 30_encoding.md R98). The opcode matrix and the base cycle counts are the spec's own choice
(D10, D11, D12): log 5. -/
def Obligations.EveryOpcodeByteDecodes : Prop :=
  (∀ (opc b1 b2 : Byte) (rest : List Byte), ∃ i r, decode (opc :: b1 :: b2 :: rest) = .ok (i, r) ∧ i.opcode = opc) ∧
  ∀ i j : Instr, i.opcode = j.opcode →
    i.op = j.op ∧ i.mode.kind = j.mode.kind ∧ cfg.baseCycles i.opcode = cfg.baseCycles j.opcode

/-- The length of an instruction is 1 plus the operand bytes of its mode, and known from byte 0 (derived:
30_encoding.md R91, 92_eei_decisions.md D12). That the undocumented bytes have length 1 is the spec's own choice
(D12): log 5. -/
def Obligations.LengthFollowsFromTheOpcodeByte : Prop :=
  (∀ i : Instr, (encode i).length = 1 + (match i.mode.kind with
    | .IMP => 0
    | .IMM | .ZP0 | .ZPX | .ZPY | .REL | .IZX | .IZY => 1
    | .ABS | .ABX | .ABY | .IND => 2)) ∧
  (∀ (bs : List Byte) (i : Instr) (rest : List Byte), decode bs = .ok (i, rest) → bs.length = (encode i).length + rest.length) ∧
  (∀ i j : Instr, i.opcode = j.opcode → (encode i).length = (encode j).length) ∧
  ∀ i : Instr, i.op = .NOP ∨ i.op = .XXX → (encode i).length = 1

/-- Words written out from the spec decode to the instructions they stand for (derived: 30_encoding.md R96,
30_encoding.md R101). The opcode matrix is the spec's own choice (D10, D12): log 5. -/
def Obligations.WrittenOutWordsDecode : Prop :=
  decode [0xA9, 0x10] = .ok (.ldaImm 0x10, []) ∧
  decode [0xA5, 0x10] = .ok (.ldaZp0 0x10, []) ∧
  decode [0xB5, 0x10] = .ok (.ldaZpx 0x10, []) ∧
  decode [0xB6, 0x10] = .ok (.ldxZpy 0x10, []) ∧
  decode [0xAD, 0x34, 0x12] = .ok (.ldaAbs 0x1234, []) ∧
  decode [0xBD, 0x34, 0x12] = .ok (.ldaAbx 0x1234, []) ∧
  decode [0xB9, 0x34, 0x12] = .ok (.ldaAby 0x1234, []) ∧
  decode [0xA1, 0x20] = .ok (.ldaIzx 0x20, []) ∧
  decode [0xB1, 0x20] = .ok (.ldaIzy 0x20, []) ∧
  decode [0x6C, 0xFF, 0x30] = .ok (.jmpInd 0x30FF, []) ∧
  decode [0xD0, 0xFA] = .ok (.bne 0xFA, []) ∧
  decode [0x0A] = .ok (.aslImp, []) ∧
  decode [0x18] = .ok (.clc, []) ∧
  decode [0x00] = .ok (.brk, []) ∧
  decode [0x02] = .ok (.xxx02, []) ∧
  decode [0x1C] = .ok (.nop1C, [])

/-- A step of an idle core runs the instruction its bytes decode to (derived: 40_step_and_addressing.md R120,
30_encoding.md R95). The model decodes the whole instruction before it runs: log 7. -/
def Obligations.StepRunsTheDecodedInstruction : Prop :=
  (∀ (s : State) (i : Instr) (t : State), s.cycles = 0 → decode (s.bytesFrom s.PC i.length) = .ok (i, []) →
    exec i s = .next t → step s = .next ((t.setClockCount (t.clockCount + 1)).setCycles (t.cycles - 1))) ∧
  ∀ s : State, decode (s.bytesFrom s.PC s.fetchInstr.length) = .ok (s.fetchInstr, [])

/-- The bytes of an instruction stored at PC are what the next step runs (derived: 20_memory.md R76,
70_reset_and_hazards.md R307). The model decodes the whole instruction before it runs: log 7. -/
def Obligations.FetchReadsWhatWasStored : Prop :=
  ∀ (s : State) (i : Instr), (s.placeBytes s.PC (encode i)).fetchInstr = i ∧
  ∀ t, exec i ((s.placeBytes s.PC (encode i)).setCycles 0) = .next t →
    step ((s.placeBytes s.PC (encode i)).setCycles 0) = .next t.clockTick

/-- A Clock event in the busy phase only counts (R121, R136). -/
def Obligations.BusyClockOnlyCounts : Prop :=
  (∀ s : State, s.complete = true ↔ s.cycles = 0) ∧
  ∀ s : State, s.cycles ≠ 0 → step s = .next { s with cycles := s.cycles - 1, clockCount := s.clockCount + 1 }

/-- All effects of an instruction come in its first Clock event; the others only count down, and complete is true
after exactly its length (derived: 40_step_and_addressing.md R137, 92_eei_decisions.md D6, 92_eei_decisions.md
D11). That the length is at least 1 rests on the default base cycle counts (D6, D11): log 5, log 8. -/
def Obligations.EffectsComeFirstThenTheCountdown : Prop :=
  ∀ s t : State, s.cycles = 0 → exec s.fetchInstr s = .next t →
  1 ≤ t.cycles ∧ ∀ k, 1 ≤ k → k ≤ t.cycles →
    handleAll (List.replicate k .clock) s = .next ((t.setCycles (t.cycles - k)).setClockCount (s.clockCount + k))

/-- An instruction takes its base cycles, at most one more for a page cross, at most two more for a taken branch
(derived: 40_step_and_addressing.md R122, 40_step_and_addressing.md R138, 90_conflicts.md C4). Which operations
signal and the base cycle counts are the spec's own choice (D18, D11): log 5, log 6. -/
def Obligations.InstructionLengthBounds : Prop :=
  ∀ (i : Instr) (s t : State), exec i s = .next t →
  cfg.baseCycles i.opcode ≤ t.cycles ∧ t.cycles ≤ cfg.baseCycles i.opcode + 2 ∧
  (i.mode.kind ≠ .REL →
    t.cycles = cfg.baseCycles i.opcode +
      (if pageCross i.mode s = true ∧ i.mode.kind ∈ [.ABX, .ABY, .IZY] ∧
          i.op ∈ [.ADC, .SBC, .AND, .ORA, .EOR, .CMP, .LDA, .LDX, .LDY] then 1 else 0))

/-- No instruction and no event ever faults or is refused (derived: 60_exceptions.md R262, 00_scope.md R9,
93_implementation_defined.md part 1). -/
def Obligations.EveryEventCompletes : Prop :=
  (∀ (i : Instr) (s : State), ∃ t, exec i s = .next t) ∧
  (∀ (e : Event) (s : State), ∃ t, handle e s = .next t) ∧
  ∀ (es : List Event) (s : State), ∃ t, handleAll es s = .next t

/-- Each addressing mode leaves the effective address its rule gives, with the wraps of R70 (derived:
40_step_and_addressing.md R124 to R135, 20_memory.md R70, 40_step_and_addressing.md R139). The wrap of the second
pointer byte is the spec's own choice (D19): log 6. -/
def Obligations.AddressingModesLeaveTheirAddress : Prop :=
  ∀ (i : Instr) (s t : State), exec i s = .next t →
  (i.mode = .imp → t.fetched = s.A ∧ t.addrAbs = s.addrAbs) ∧
  (∀ v, i.mode = .imm v → t.addrAbs.toNat = (s.PC.toNat + 1) % 65536) ∧
  (∀ z, i.mode = .zp0 z → t.addrAbs.toNat = z.toNat) ∧
  (∀ z, i.mode = .zpx z → t.addrAbs.toNat = (z.toNat + s.X.toNat) % 256) ∧
  (∀ z, i.mode = .zpy z → t.addrAbs.toNat = (z.toNat + s.Y.toNat) % 256) ∧
  (∀ d, i.mode = .rel d → t.addrRel.toInt = d.toInt) ∧
  (∀ w, i.mode = .abs w → t.addrAbs = w) ∧
  (∀ w, i.mode = .abx w → t.addrAbs.toNat = (w.toNat + s.X.toNat) % 65536) ∧
  (∀ w, i.mode = .aby w → t.addrAbs.toNat = (w.toNat + s.Y.toNat) % 65536) ∧
  (∀ w, i.mode = .ind w → t.addrAbs.toNat = (s.memRead w).toNat +
    256 * (s.memRead (if lo w = 0xFF then w &&& 0xFF00 else w + 1)).toNat) ∧
  (∀ z, i.mode = .izx z → t.addrAbs.toNat =
    (s.memRead (BitVec.ofNat 16 ((z.toNat + s.X.toNat) % 256))).toNat +
      256 * (s.memRead (BitVec.ofNat 16 ((z.toNat + s.X.toNat + 1) % 256))).toNat) ∧
  (∀ z, i.mode = .izy z → t.addrAbs.toNat =
    ((s.memRead (BitVec.ofNat 16 z.toNat)).toNat +
      256 * (s.memRead (BitVec.ofNat 16 ((z.toNat + 1) % 256))).toNat + s.Y.toNat) % 65536)

/-- ABX and ABY step over two bytes, leave the indexed address and signal exactly when its high byte changed (R131,
R132). -/
def Obligations.PageCrossSignalIsTheCarryOfTheLowByte : Prop :=
  ∀ s : State,
  (∀ w, (resolve (.abx w) s).1 = { s with PC := s.PC + 2, addrAbs := w + zext16 s.X } ∧
    ((resolve (.abx w) s).2 = true ↔ hi (w + zext16 s.X) ≠ hi w) ∧
    ((resolve (.abx w) s).2 = true ↔ 255 < (lo w).toNat + s.X.toNat)) ∧
  (∀ w, (resolve (.aby w) s).1 = { s with PC := s.PC + 2, addrAbs := w + zext16 s.Y } ∧
    ((resolve (.aby w) s).2 = true ↔ hi (w + zext16 s.Y) ≠ hi w) ∧
    ((resolve (.aby w) s).2 = true ↔ 255 < (lo w).toNat + s.Y.toNat)) ∧
  (∀ z, (resolve (.izy z) s).2 = true ↔ 255 < (s.memRead (zext16 z)).toNat + s.Y.toNat) ∧
  ∀ m : Mode, m.kind ∉ [.ABX, .ABY, .IZY] → (resolve m s).2 = false

/-- The immediate operand an instruction carries is the byte at the address the mode leaves (derived:
40_step_and_addressing.md R123, 40_step_and_addressing.md R125). The model takes the operand at decode: log 7. -/
def Obligations.ImmediateOperandIsTheByteAtItsAddress : Prop :=
  ∀ (s : State) (v : Byte), s.fetchInstr.mode = .imm v →
  s.memRead (s.PC + 1) = v ∧ ∃ t, exec s.fetchInstr s = .next t ∧ t.addrAbs = s.PC + 1 ∧ t.fetched = v

/-- LDA, LDX and LDY copy their operand to the register, set Z and N from it and change nothing else (derived:
41_load_store_transfer.md R150, R151, R152, 92_eei_decisions.md D10, 92_eei_decisions.md D11, 92_eei_decisions.md
D17, 92_eei_decisions.md D18). Its opcode bytes and base cycle counts are the spec's own choice
(92_eei_decisions.md D10, D11), which the model follows: log 5; so are the operations and the signal (D17, D18):
log 6. -/
def Obligations.LoadsCopyTheOperand : Prop :=
  (∀ z, tableRow (.ldaIzx z) .LDA (.izx z) [0xA1, z] 6) ∧
  (∀ z, tableRow (.ldaZp0 z) .LDA (.zp0 z) [0xA5, z] 3) ∧
  (∀ v, tableRow (.ldaImm v) .LDA (.imm v) [0xA9, v] 2) ∧
  (∀ l h, tableRow (.ldaAbs (word h l)) .LDA (.abs (word h l)) [0xAD, l, h] 4) ∧
  (∀ z, tableRow (.ldaIzy z) .LDA (.izy z) [0xB1, z] 5) ∧
  (∀ z, tableRow (.ldaZpx z) .LDA (.zpx z) [0xB5, z] 4) ∧
  (∀ l h, tableRow (.ldaAby (word h l)) .LDA (.aby (word h l)) [0xB9, l, h] 4) ∧
  (∀ l h, tableRow (.ldaAbx (word h l)) .LDA (.abx (word h l)) [0xBD, l, h] 4) ∧
  (∀ v, tableRow (.ldxImm v) .LDX (.imm v) [0xA2, v] 2) ∧
  (∀ z, tableRow (.ldxZp0 z) .LDX (.zp0 z) [0xA6, z] 3) ∧
  (∀ l h, tableRow (.ldxAbs (word h l)) .LDX (.abs (word h l)) [0xAE, l, h] 4) ∧
  (∀ z, tableRow (.ldxZpy z) .LDX (.zpy z) [0xB6, z] 4) ∧
  (∀ l h, tableRow (.ldxAby (word h l)) .LDX (.aby (word h l)) [0xBE, l, h] 4) ∧
  (∀ v, tableRow (.ldyImm v) .LDY (.imm v) [0xA0, v] 2) ∧
  (∀ z, tableRow (.ldyZp0 z) .LDY (.zp0 z) [0xA4, z] 3) ∧
  (∀ l h, tableRow (.ldyAbs (word h l)) .LDY (.abs (word h l)) [0xAC, l, h] 4) ∧
  (∀ z, tableRow (.ldyZpx z) .LDY (.zpx z) [0xB4, z] 4) ∧
  (∀ l h, tableRow (.ldyAbx (word h l)) .LDY (.abx (word h l)) [0xBC, l, h] 4) ∧
  (∀ (i : Instr) (s : State), i.op = .LDA → ∃ t, exec i s = .next t ∧
    t.A = operandOf i.mode s ∧ setsZN t (operandOf i.mode s) ∧
    keepsRegsBut [.A] s t ∧ keepsFlagsBut [.Z, .N] s t ∧ keepsMemBut [] s t ∧
    t.fetched = operandOf i.mode s ∧ goesOn i s t true) ∧
  (∀ (i : Instr) (s : State), i.op = .LDX → ∃ t, exec i s = .next t ∧
    t.X = operandOf i.mode s ∧ setsZN t (operandOf i.mode s) ∧
    keepsRegsBut [.X] s t ∧ keepsFlagsBut [.Z, .N] s t ∧ keepsMemBut [] s t ∧
    t.fetched = operandOf i.mode s ∧ goesOn i s t true) ∧
  (∀ (i : Instr) (s : State), i.op = .LDY → ∃ t, exec i s = .next t ∧
    t.Y = operandOf i.mode s ∧ setsZN t (operandOf i.mode s) ∧
    keepsRegsBut [.Y] s t ∧ keepsFlagsBut [.Z, .N] s t ∧ keepsMemBut [] s t ∧
    t.fetched = operandOf i.mode s ∧ goesOn i s t true)

/-- STA, STX and STY write the register to the byte at the effective address and change nothing else (derived:
41_load_store_transfer.md R153, R154, R155, 92_eei_decisions.md D10, 92_eei_decisions.md D11, 92_eei_decisions.md
D17). Its opcode bytes and base cycle counts are the spec's own choice (92_eei_decisions.md D10, D11), which the
model follows: log 5; so are the operations (D17): log 6. -/
def Obligations.StoresWriteOneByte : Prop :=
  (∀ z, tableRow (.staIzx z) .STA (.izx z) [0x81, z] 6) ∧
  (∀ z, tableRow (.staZp0 z) .STA (.zp0 z) [0x85, z] 3) ∧
  (∀ l h, tableRow (.staAbs (word h l)) .STA (.abs (word h l)) [0x8D, l, h] 4) ∧
  (∀ z, tableRow (.staIzy z) .STA (.izy z) [0x91, z] 6) ∧
  (∀ z, tableRow (.staZpx z) .STA (.zpx z) [0x95, z] 4) ∧
  (∀ l h, tableRow (.staAby (word h l)) .STA (.aby (word h l)) [0x99, l, h] 5) ∧
  (∀ l h, tableRow (.staAbx (word h l)) .STA (.abx (word h l)) [0x9D, l, h] 5) ∧
  (∀ z, tableRow (.stxZp0 z) .STX (.zp0 z) [0x86, z] 3) ∧
  (∀ l h, tableRow (.stxAbs (word h l)) .STX (.abs (word h l)) [0x8E, l, h] 4) ∧
  (∀ z, tableRow (.stxZpy z) .STX (.zpy z) [0x96, z] 4) ∧
  (∀ z, tableRow (.styZp0 z) .STY (.zp0 z) [0x84, z] 3) ∧
  (∀ l h, tableRow (.styAbs (word h l)) .STY (.abs (word h l)) [0x8C, l, h] 4) ∧
  (∀ z, tableRow (.styZpx z) .STY (.zpx z) [0x94, z] 4) ∧
  (∀ (i : Instr) (s : State), i.op = .STA → ∃ t, exec i s = .next t ∧
    t.memRead (effAddr i.mode s) = s.A ∧ keepsMemBut [effAddr i.mode s] s t ∧
    keepsRegsBut [] s t ∧ keepsFlagsBut [] s t ∧ t.fetched = s.fetched ∧ goesOn i s t false) ∧
  (∀ (i : Instr) (s : State), i.op = .STX → ∃ t, exec i s = .next t ∧
    t.memRead (effAddr i.mode s) = s.X ∧ keepsMemBut [effAddr i.mode s] s t ∧
    keepsRegsBut [] s t ∧ keepsFlagsBut [] s t ∧ t.fetched = s.fetched ∧ goesOn i s t false) ∧
  (∀ (i : Instr) (s : State), i.op = .STY → ∃ t, exec i s = .next t ∧
    t.memRead (effAddr i.mode s) = s.Y ∧ keepsMemBut [effAddr i.mode s] s t ∧
    keepsRegsBut [] s t ∧ keepsFlagsBut [] s t ∧ t.fetched = s.fetched ∧ goesOn i s t false)

/-- TAX TAY TXA TYA TSX TXS copy one register; all but TXS set Z and N (derived: 41_load_store_transfer.md R156,
R157, R158, R159, R160, R161, 92_eei_decisions.md D10, 92_eei_decisions.md D11). Its opcode bytes and base cycle
counts are the spec's own choice (92_eei_decisions.md D10, D11), which the model follows: log 5; so is the
reading of the mnemonics (93 G11): log 6. -/
def Obligations.TransfersCopyOneRegister : Prop :=
  tableRow .tax .TAX .imp [0xAA] 2 ∧
  tableRow .tay .TAY .imp [0xA8] 2 ∧
  tableRow .txa .TXA .imp [0x8A] 2 ∧
  tableRow .tya .TYA .imp [0x98] 2 ∧
  tableRow .tsx .TSX .imp [0xBA] 2 ∧
  tableRow .txs .TXS .imp [0x9A] 2 ∧
  (∀ s : State, ∃ t, exec .tax s = .next t ∧ t.X = s.A ∧ setsZN t s.A ∧
    keepsRegsBut [.X] s t ∧ keepsFlagsBut [.Z, .N] s t ∧ keepsMemBut [] s t ∧ goesOn .tax s t false) ∧
  (∀ s : State, ∃ t, exec .tay s = .next t ∧ t.Y = s.A ∧ setsZN t s.A ∧
    keepsRegsBut [.Y] s t ∧ keepsFlagsBut [.Z, .N] s t ∧ keepsMemBut [] s t ∧ goesOn .tay s t false) ∧
  (∀ s : State, ∃ t, exec .txa s = .next t ∧ t.A = s.X ∧ setsZN t s.X ∧
    keepsRegsBut [.A] s t ∧ keepsFlagsBut [.Z, .N] s t ∧ keepsMemBut [] s t ∧ goesOn .txa s t false) ∧
  (∀ s : State, ∃ t, exec .tya s = .next t ∧ t.A = s.Y ∧ setsZN t s.Y ∧
    keepsRegsBut [.A] s t ∧ keepsFlagsBut [.Z, .N] s t ∧ keepsMemBut [] s t ∧ goesOn .tya s t false) ∧
  (∀ s : State, ∃ t, exec .tsx s = .next t ∧ t.X = s.SP ∧ setsZN t s.SP ∧
    keepsRegsBut [.X] s t ∧ keepsFlagsBut [.Z, .N] s t ∧ keepsMemBut [] s t ∧ goesOn .tsx s t false) ∧
  (∀ s : State, ∃ t, exec .txs s = .next t ∧ t.SP = s.X ∧
    keepsRegsBut [.SP] s t ∧ keepsFlagsBut [] s t ∧ keepsMemBut [] s t ∧ goesOn .txs s t false)

/-- AND, ORA and EOR combine A with the operand, set Z and N from the result and change nothing else (derived:
42_logic_arith.md R170, R171, R172, 92_eei_decisions.md D10, 92_eei_decisions.md D11, 92_eei_decisions.md D18).
Its opcode bytes and base cycle counts are the spec's own choice (92_eei_decisions.md D10, D11), which the model
follows: log 5; so is the signal (D18): log 6. -/
def Obligations.LogicCombinesAccumulatorAndOperand : Prop :=
  (∀ z, tableRow (.andIzx z) .AND (.izx z) [0x21, z] 6) ∧
  (∀ z, tableRow (.andZp0 z) .AND (.zp0 z) [0x25, z] 3) ∧
  (∀ v, tableRow (.andImm v) .AND (.imm v) [0x29, v] 2) ∧
  (∀ l h, tableRow (.andAbs (word h l)) .AND (.abs (word h l)) [0x2D, l, h] 4) ∧
  (∀ z, tableRow (.andIzy z) .AND (.izy z) [0x31, z] 5) ∧
  (∀ z, tableRow (.andZpx z) .AND (.zpx z) [0x35, z] 4) ∧
  (∀ l h, tableRow (.andAby (word h l)) .AND (.aby (word h l)) [0x39, l, h] 4) ∧
  (∀ l h, tableRow (.andAbx (word h l)) .AND (.abx (word h l)) [0x3D, l, h] 4) ∧
  (∀ z, tableRow (.oraIzx z) .ORA (.izx z) [0x01, z] 6) ∧
  (∀ z, tableRow (.oraZp0 z) .ORA (.zp0 z) [0x05, z] 3) ∧
  (∀ v, tableRow (.oraImm v) .ORA (.imm v) [0x09, v] 2) ∧
  (∀ l h, tableRow (.oraAbs (word h l)) .ORA (.abs (word h l)) [0x0D, l, h] 4) ∧
  (∀ z, tableRow (.oraIzy z) .ORA (.izy z) [0x11, z] 5) ∧
  (∀ z, tableRow (.oraZpx z) .ORA (.zpx z) [0x15, z] 4) ∧
  (∀ l h, tableRow (.oraAby (word h l)) .ORA (.aby (word h l)) [0x19, l, h] 4) ∧
  (∀ l h, tableRow (.oraAbx (word h l)) .ORA (.abx (word h l)) [0x1D, l, h] 4) ∧
  (∀ z, tableRow (.eorIzx z) .EOR (.izx z) [0x41, z] 6) ∧
  (∀ z, tableRow (.eorZp0 z) .EOR (.zp0 z) [0x45, z] 3) ∧
  (∀ v, tableRow (.eorImm v) .EOR (.imm v) [0x49, v] 2) ∧
  (∀ l h, tableRow (.eorAbs (word h l)) .EOR (.abs (word h l)) [0x4D, l, h] 4) ∧
  (∀ z, tableRow (.eorIzy z) .EOR (.izy z) [0x51, z] 5) ∧
  (∀ z, tableRow (.eorZpx z) .EOR (.zpx z) [0x55, z] 4) ∧
  (∀ l h, tableRow (.eorAby (word h l)) .EOR (.aby (word h l)) [0x59, l, h] 4) ∧
  (∀ l h, tableRow (.eorAbx (word h l)) .EOR (.abx (word h l)) [0x5D, l, h] 4) ∧
  (∀ (i : Instr) (s : State), i.op = .AND → ∃ t, exec i s = .next t ∧
    t.A = s.A &&& operandOf i.mode s ∧ setsZN t (s.A &&& operandOf i.mode s) ∧
    keepsRegsBut [.A] s t ∧ keepsFlagsBut [.Z, .N] s t ∧ keepsMemBut [] s t ∧
    t.fetched = operandOf i.mode s ∧ goesOn i s t true) ∧
  (∀ (i : Instr) (s : State), i.op = .ORA → ∃ t, exec i s = .next t ∧
    t.A = s.A ||| operandOf i.mode s ∧ setsZN t (s.A ||| operandOf i.mode s) ∧
    keepsRegsBut [.A] s t ∧ keepsFlagsBut [.Z, .N] s t ∧ keepsMemBut [] s t ∧
    t.fetched = operandOf i.mode s ∧ goesOn i s t true) ∧
  (∀ (i : Instr) (s : State), i.op = .EOR → ∃ t, exec i s = .next t ∧
    t.A = s.A ^^^ operandOf i.mode s ∧ setsZN t (s.A ^^^ operandOf i.mode s) ∧
    keepsRegsBut [.A] s t ∧ keepsFlagsBut [.Z, .N] s t ∧ keepsMemBut [] s t ∧
    t.fetched = operandOf i.mode s ∧ goesOn i s t true)

/-- BIT sets Z from A and operand, N and V from bits 7 and 6 of the operand (derived: 42_logic_arith.md R173,
92_eei_decisions.md D10, 92_eei_decisions.md D11, 92_eei_decisions.md D17). Its opcode bytes and base cycle
counts are the spec's own choice (92_eei_decisions.md D10, D11), which the model follows: log 5; so is the
operation (D17): log 6. -/
def Obligations.BitTestsTheOperand : Prop :=
  (∀ z, tableRow (.bitZp0 z) .BIT (.zp0 z) [0x24, z] 3) ∧
  (∀ l h, tableRow (.bitAbs (word h l)) .BIT (.abs (word h l)) [0x2C, l, h] 4) ∧
  ∀ (i : Instr) (s : State), i.op = .BIT → ∃ t, exec i s = .next t ∧
    t.flag .Z = decide (s.A &&& operandOf i.mode s = 0) ∧
    t.flag .N = (operandOf i.mode s).getLsbD 7 ∧ t.flag .V = (operandOf i.mode s).getLsbD 6 ∧
    keepsRegsBut [] s t ∧ keepsFlagsBut [.Z, .N, .V] s t ∧ keepsMemBut [] s t ∧
    t.temp = zext16 (s.A &&& operandOf i.mode s) ∧ t.fetched = operandOf i.mode s ∧ goesOn i s t false

/-- ADC adds operand and carry to A; C is the unsigned carry out, V the signed overflow (derived: 42_logic_arith.md
R174, 92_eei_decisions.md D10, 92_eei_decisions.md D11). Its opcode bytes and base cycle counts are the spec's
own choice (92_eei_decisions.md D10, D11), which the model follows: log 5. -/
def Obligations.AddWithCarry : Prop :=
  (∀ z, tableRow (.adcIzx z) .ADC (.izx z) [0x61, z] 6) ∧
  (∀ z, tableRow (.adcZp0 z) .ADC (.zp0 z) [0x65, z] 3) ∧
  (∀ v, tableRow (.adcImm v) .ADC (.imm v) [0x69, v] 2) ∧
  (∀ l h, tableRow (.adcAbs (word h l)) .ADC (.abs (word h l)) [0x6D, l, h] 4) ∧
  (∀ z, tableRow (.adcIzy z) .ADC (.izy z) [0x71, z] 5) ∧
  (∀ z, tableRow (.adcZpx z) .ADC (.zpx z) [0x75, z] 4) ∧
  (∀ l h, tableRow (.adcAby (word h l)) .ADC (.aby (word h l)) [0x79, l, h] 4) ∧
  (∀ l h, tableRow (.adcAbx (word h l)) .ADC (.abx (word h l)) [0x7D, l, h] 4) ∧
  ∀ (i : Instr) (s : State), i.op = .ADC → ∃ t, exec i s = .next t ∧
    t.temp.toNat = s.A.toNat + (operandOf i.mode s).toNat + (s.flag .C).toNat ∧
    t.A.toNat = (s.A.toNat + (operandOf i.mode s).toNat + (s.flag .C).toNat) % 256 ∧
    t.flag .C = decide (255 < s.A.toNat + (operandOf i.mode s).toNat + (s.flag .C).toNat) ∧
    t.flag .V = decide (s.A.toInt + (operandOf i.mode s).toInt + (s.flag .C).toNat < -128 ∨
      127 < s.A.toInt + (operandOf i.mode s).toInt + (s.flag .C).toNat) ∧
    setsZN t t.A ∧
    keepsRegsBut [.A] s t ∧ keepsFlagsBut [.C, .Z, .V, .N] s t ∧ keepsMemBut [] s t ∧
    t.fetched = operandOf i.mode s ∧ goesOn i s t true

/-- SBC subtracts operand and borrow from A; C is not-borrow, V the signed overflow (derived: 42_logic_arith.md R175,
92_eei_decisions.md D10, 92_eei_decisions.md D11). Its opcode bytes and base cycle counts are the spec's own
choice (92_eei_decisions.md D10, D11), which the model follows: log 5. -/
def Obligations.SubtractWithBorrow : Prop :=
  (∀ z, tableRow (.sbcIzx z) .SBC (.izx z) [0xE1, z] 6) ∧
  (∀ z, tableRow (.sbcZp0 z) .SBC (.zp0 z) [0xE5, z] 3) ∧
  (∀ v, tableRow (.sbcImm v) .SBC (.imm v) [0xE9, v] 2) ∧
  (∀ l h, tableRow (.sbcAbs (word h l)) .SBC (.abs (word h l)) [0xED, l, h] 4) ∧
  (∀ z, tableRow (.sbcIzy z) .SBC (.izy z) [0xF1, z] 5) ∧
  (∀ z, tableRow (.sbcZpx z) .SBC (.zpx z) [0xF5, z] 4) ∧
  (∀ l h, tableRow (.sbcAby (word h l)) .SBC (.aby (word h l)) [0xF9, l, h] 4) ∧
  (∀ l h, tableRow (.sbcAbx (word h l)) .SBC (.abx (word h l)) [0xFD, l, h] 4) ∧
  ∀ (i : Instr) (s : State), i.op = .SBC → ∃ t, exec i s = .next t ∧
    t.temp.toNat = s.A.toNat + (255 - (operandOf i.mode s).toNat) + (s.flag .C).toNat ∧
    (t.A.toNat : Int) = ((s.A.toNat : Int) - (operandOf i.mode s).toNat - (1 - (s.flag .C).toNat)) % 256 ∧
    t.flag .C = decide (0 ≤ (s.A.toNat : Int) - (operandOf i.mode s).toNat - (1 - (s.flag .C).toNat)) ∧
    t.flag .V = decide (s.A.toInt - (operandOf i.mode s).toInt - (1 - (s.flag .C).toNat) < -128 ∨
      127 < s.A.toInt - (operandOf i.mode s).toInt - (1 - (s.flag .C).toNat)) ∧
    setsZN t t.A ∧
    keepsRegsBut [.A] s t ∧ keepsFlagsBut [.C, .Z, .V, .N] s t ∧ keepsMemBut [] s t ∧
    t.fetched = operandOf i.mode s ∧ goesOn i s t true

/-- CMP, CPX and CPY set C, Z, N from register minus operand and change no register (derived: 42_logic_arith.md R176,
R177, R178, 92_eei_decisions.md D10, 92_eei_decisions.md D11, 92_eei_decisions.md D18). Its opcode bytes and base
cycle counts are the spec's own choice (92_eei_decisions.md D10, D11), which the model follows: log 5; so is the
signal of CMP (D18): log 6. -/
def Obligations.ComparesSetCarryZeroNegative : Prop :=
  (∀ z, tableRow (.cmpIzx z) .CMP (.izx z) [0xC1, z] 6) ∧
  (∀ z, tableRow (.cmpZp0 z) .CMP (.zp0 z) [0xC5, z] 3) ∧
  (∀ v, tableRow (.cmpImm v) .CMP (.imm v) [0xC9, v] 2) ∧
  (∀ l h, tableRow (.cmpAbs (word h l)) .CMP (.abs (word h l)) [0xCD, l, h] 4) ∧
  (∀ z, tableRow (.cmpIzy z) .CMP (.izy z) [0xD1, z] 5) ∧
  (∀ z, tableRow (.cmpZpx z) .CMP (.zpx z) [0xD5, z] 4) ∧
  (∀ l h, tableRow (.cmpAby (word h l)) .CMP (.aby (word h l)) [0xD9, l, h] 4) ∧
  (∀ l h, tableRow (.cmpAbx (word h l)) .CMP (.abx (word h l)) [0xDD, l, h] 4) ∧
  (∀ v, tableRow (.cpxImm v) .CPX (.imm v) [0xE0, v] 2) ∧
  (∀ z, tableRow (.cpxZp0 z) .CPX (.zp0 z) [0xE4, z] 3) ∧
  (∀ l h, tableRow (.cpxAbs (word h l)) .CPX (.abs (word h l)) [0xEC, l, h] 4) ∧
  (∀ v, tableRow (.cpyImm v) .CPY (.imm v) [0xC0, v] 2) ∧
  (∀ z, tableRow (.cpyZp0 z) .CPY (.zp0 z) [0xC4, z] 3) ∧
  (∀ l h, tableRow (.cpyAbs (word h l)) .CPY (.abs (word h l)) [0xCC, l, h] 4) ∧
  (∀ (i : Instr) (s : State), i.op = .CMP → ∃ t, exec i s = .next t ∧
    t.flag .C = decide ((operandOf i.mode s).toNat ≤ s.A.toNat) ∧
    t.flag .Z = decide (s.A = operandOf i.mode s) ∧
    t.flag .N = (s.A - operandOf i.mode s).getLsbD 7 ∧
    (t.temp.toNat : Int) = ((s.A.toNat : Int) - (operandOf i.mode s).toNat) % 65536 ∧
    keepsRegsBut [] s t ∧ keepsFlagsBut [.C, .Z, .N] s t ∧ keepsMemBut [] s t ∧
    t.fetched = operandOf i.mode s ∧ goesOn i s t true) ∧
  (∀ (i : Instr) (s : State), i.op = .CPX → ∃ t, exec i s = .next t ∧
    t.flag .C = decide ((operandOf i.mode s).toNat ≤ s.X.toNat) ∧
    t.flag .Z = decide (s.X = operandOf i.mode s) ∧
    t.flag .N = (s.X - operandOf i.mode s).getLsbD 7 ∧
    (t.temp.toNat : Int) = ((s.X.toNat : Int) - (operandOf i.mode s).toNat) % 65536 ∧
    keepsRegsBut [] s t ∧ keepsFlagsBut [.C, .Z, .N] s t ∧ keepsMemBut [] s t ∧
    t.fetched = operandOf i.mode s ∧ goesOn i s t false) ∧
  (∀ (i : Instr) (s : State), i.op = .CPY → ∃ t, exec i s = .next t ∧
    t.flag .C = decide ((operandOf i.mode s).toNat ≤ s.Y.toNat) ∧
    t.flag .Z = decide (s.Y = operandOf i.mode s) ∧
    t.flag .N = (s.Y - operandOf i.mode s).getLsbD 7 ∧
    (t.temp.toNat : Int) = ((s.Y.toNat : Int) - (operandOf i.mode s).toNat) % 65536 ∧
    keepsRegsBut [] s t ∧ keepsFlagsBut [.C, .Z, .N] s t ∧ keepsMemBut [] s t ∧
    t.fetched = operandOf i.mode s ∧ goesOn i s t false)

/-- ASL and LSR shift A or one memory byte by one; C is the bit shifted out, a 0 enters (derived: 43_shift_incdec.md
R190, R191, 92_eei_decisions.md D10, 92_eei_decisions.md D11, 92_eei_decisions.md D7). Its opcode bytes and base
cycle counts are the spec's own choice (92_eei_decisions.md D10, D11), which the model follows: log 5; so are the
bit that enters and the value left in temp (93 G11, D7): log 6. -/
def Obligations.ShiftsMoveOneBit : Prop :=
  (∀ z, tableRow (.aslZp0 z) .ASL (.zp0 z) [0x06, z] 5) ∧
  tableRow .aslImp .ASL .imp [0x0A] 2 ∧
  (∀ l h, tableRow (.aslAbs (word h l)) .ASL (.abs (word h l)) [0x0E, l, h] 6) ∧
  (∀ z, tableRow (.aslZpx z) .ASL (.zpx z) [0x16, z] 6) ∧
  (∀ l h, tableRow (.aslAbx (word h l)) .ASL (.abx (word h l)) [0x1E, l, h] 7) ∧
  (∀ z, tableRow (.lsrZp0 z) .LSR (.zp0 z) [0x46, z] 5) ∧
  tableRow .lsrImp .LSR .imp [0x4A] 2 ∧
  (∀ l h, tableRow (.lsrAbs (word h l)) .LSR (.abs (word h l)) [0x4E, l, h] 6) ∧
  (∀ z, tableRow (.lsrZpx z) .LSR (.zpx z) [0x56, z] 6) ∧
  (∀ l h, tableRow (.lsrAbx (word h l)) .LSR (.abx (word h l)) [0x5E, l, h] 7) ∧
  (∀ (i : Instr) (s : State), i.op = .ASL → ∃ t, exec i s = .next t ∧
    ∃ r : Byte, r.toNat = 2 * (operandOf i.mode s).toNat % 256 ∧ writesBack i s t r ∧ setsZN t r ∧
    t.flag .C = (operandOf i.mode s).getLsbD 7 ∧ keepsFlagsBut [.C, .Z, .N] s t ∧
    t.temp.toNat = 2 * (operandOf i.mode s).toNat ∧ t.fetched = operandOf i.mode s ∧ goesOn i s t false) ∧
  (∀ (i : Instr) (s : State), i.op = .LSR → ∃ t, exec i s = .next t ∧
    ∃ r : Byte, r.toNat = (operandOf i.mode s).toNat / 2 ∧ writesBack i s t r ∧ setsZN t r ∧
    t.flag .C = (operandOf i.mode s).getLsbD 0 ∧ keepsFlagsBut [.C, .Z, .N] s t ∧
    t.temp.toNat = (operandOf i.mode s).toNat / 2 ∧ t.fetched = operandOf i.mode s ∧ goesOn i s t false)

/-- ROL and ROR rotate A or one memory byte through the carry by one (derived: 43_shift_incdec.md R192, R193,
92_eei_decisions.md D10, 92_eei_decisions.md D11, 92_eei_decisions.md D7). Its opcode bytes and base cycle counts
are the spec's own choice (92_eei_decisions.md D10, D11), which the model follows: log 5; so are the bit that
enters and the value left in temp (93 G11, D7): log 6. -/
def Obligations.RotatesGoThroughCarry : Prop :=
  (∀ z, tableRow (.rolZp0 z) .ROL (.zp0 z) [0x26, z] 5) ∧
  tableRow .rolImp .ROL .imp [0x2A] 2 ∧
  (∀ l h, tableRow (.rolAbs (word h l)) .ROL (.abs (word h l)) [0x2E, l, h] 6) ∧
  (∀ z, tableRow (.rolZpx z) .ROL (.zpx z) [0x36, z] 6) ∧
  (∀ l h, tableRow (.rolAbx (word h l)) .ROL (.abx (word h l)) [0x3E, l, h] 7) ∧
  (∀ z, tableRow (.rorZp0 z) .ROR (.zp0 z) [0x66, z] 5) ∧
  tableRow .rorImp .ROR .imp [0x6A] 2 ∧
  (∀ l h, tableRow (.rorAbs (word h l)) .ROR (.abs (word h l)) [0x6E, l, h] 6) ∧
  (∀ z, tableRow (.rorZpx z) .ROR (.zpx z) [0x76, z] 6) ∧
  (∀ l h, tableRow (.rorAbx (word h l)) .ROR (.abx (word h l)) [0x7E, l, h] 7) ∧
  (∀ (i : Instr) (s : State), i.op = .ROL → ∃ t, exec i s = .next t ∧
    ∃ r : Byte, r.toNat = (2 * (operandOf i.mode s).toNat + (s.flag .C).toNat) % 256 ∧ writesBack i s t r ∧ setsZN t r ∧
    t.flag .C = (operandOf i.mode s).getLsbD 7 ∧ keepsFlagsBut [.C, .Z, .N] s t ∧
    t.temp.toNat = 2 * (operandOf i.mode s).toNat + (s.flag .C).toNat ∧ t.fetched = operandOf i.mode s ∧ goesOn i s t false) ∧
  (∀ (i : Instr) (s : State), i.op = .ROR → ∃ t, exec i s = .next t ∧
    ∃ r : Byte, r.toNat = 128 * (s.flag .C).toNat + (operandOf i.mode s).toNat / 2 ∧ writesBack i s t r ∧ setsZN t r ∧
    t.flag .C = (operandOf i.mode s).getLsbD 0 ∧ keepsFlagsBut [.C, .Z, .N] s t ∧
    t.temp.toNat = 128 * (s.flag .C).toNat + (operandOf i.mode s).toNat / 2 ∧ t.fetched = operandOf i.mode s ∧ goesOn i s t false)

/-- INC and DEC add or subtract 1 modulo 256 in memory and set Z and N only (derived: 43_shift_incdec.md R194, R195,
92_eei_decisions.md D10, 92_eei_decisions.md D11, 92_eei_decisions.md D7). Its opcode bytes and base cycle counts
are the spec's own choice (92_eei_decisions.md D10, D11), which the model follows: log 5; so is the value left in
temp (D7): log 6. -/
def Obligations.IncrementAndDecrementMemory : Prop :=
  (∀ z, tableRow (.incZp0 z) .INC (.zp0 z) [0xE6, z] 5) ∧
  (∀ l h, tableRow (.incAbs (word h l)) .INC (.abs (word h l)) [0xEE, l, h] 6) ∧
  (∀ z, tableRow (.incZpx z) .INC (.zpx z) [0xF6, z] 6) ∧
  (∀ l h, tableRow (.incAbx (word h l)) .INC (.abx (word h l)) [0xFE, l, h] 7) ∧
  (∀ z, tableRow (.decZp0 z) .DEC (.zp0 z) [0xC6, z] 5) ∧
  (∀ l h, tableRow (.decAbs (word h l)) .DEC (.abs (word h l)) [0xCE, l, h] 6) ∧
  (∀ z, tableRow (.decZpx z) .DEC (.zpx z) [0xD6, z] 6) ∧
  (∀ l h, tableRow (.decAbx (word h l)) .DEC (.abx (word h l)) [0xDE, l, h] 7) ∧
  (∀ (i : Instr) (s : State), i.op = .INC → ∃ t, exec i s = .next t ∧
    ∃ r : Byte, r.toNat = ((operandOf i.mode s).toNat + 1) % 256 ∧ t.memRead (effAddr i.mode s) = r ∧ setsZN t r ∧
    keepsMemBut [effAddr i.mode s] s t ∧ keepsRegsBut [] s t ∧ keepsFlagsBut [.Z, .N] s t ∧
    t.temp.toNat = (operandOf i.mode s).toNat + 1 ∧ t.fetched = operandOf i.mode s ∧ goesOn i s t false) ∧
  (∀ (i : Instr) (s : State), i.op = .DEC → ∃ t, exec i s = .next t ∧
    ∃ r : Byte, r.toNat = ((operandOf i.mode s).toNat + 255) % 256 ∧ t.memRead (effAddr i.mode s) = r ∧ setsZN t r ∧
    keepsMemBut [effAddr i.mode s] s t ∧ keepsRegsBut [] s t ∧ keepsFlagsBut [.Z, .N] s t ∧
    t.temp.toNat = ((operandOf i.mode s).toNat + 65535) % 65536 ∧ t.fetched = operandOf i.mode s ∧ goesOn i s t false)

/-- INX INY DEX DEY move X or Y by 1 modulo 256 and set Z and N only (derived: 43_shift_incdec.md R196, R197, R198,
R199, 92_eei_decisions.md D10, 92_eei_decisions.md D11). Its opcode bytes and base cycle counts are the spec's
own choice (92_eei_decisions.md D10, D11), which the model follows: log 5. -/
def Obligations.IncrementAndDecrementIndex : Prop :=
  tableRow .inx .INX .imp [0xE8] 2 ∧
  tableRow .iny .INY .imp [0xC8] 2 ∧
  tableRow .dex .DEX .imp [0xCA] 2 ∧
  tableRow .dey .DEY .imp [0x88] 2 ∧
  (∀ s : State, ∃ t, exec .inx s = .next t ∧ t.X.toNat = (s.X.toNat + 1) % 256 ∧ setsZN t t.X ∧
    keepsRegsBut [.X] s t ∧ keepsFlagsBut [.Z, .N] s t ∧ keepsMemBut [] s t ∧ goesOn .inx s t false) ∧
  (∀ s : State, ∃ t, exec .iny s = .next t ∧ t.Y.toNat = (s.Y.toNat + 1) % 256 ∧ setsZN t t.Y ∧
    keepsRegsBut [.Y] s t ∧ keepsFlagsBut [.Z, .N] s t ∧ keepsMemBut [] s t ∧ goesOn .iny s t false) ∧
  (∀ s : State, ∃ t, exec .dex s = .next t ∧ t.X.toNat = (s.X.toNat + 255) % 256 ∧ setsZN t t.X ∧
    keepsRegsBut [.X] s t ∧ keepsFlagsBut [.Z, .N] s t ∧ keepsMemBut [] s t ∧ goesOn .dex s t false) ∧
  (∀ s : State, ∃ t, exec .dey s = .next t ∧ t.Y.toNat = (s.Y.toNat + 255) % 256 ∧ setsZN t t.Y ∧
    keepsRegsBut [.Y] s t ∧ keepsFlagsBut [.Z, .N] s t ∧ keepsMemBut [] s t ∧ goesOn .dey s t false)

/-- Each branch tests its flag; taken, it goes to the next instruction plus the signed displacement and takes one or
two more cycles (derived: 44_branch_jump.md R210, R211, R212, R213, R214, R215, R216, R217, R218,
92_eei_decisions.md D7, 92_eei_decisions.md D10, 92_eei_decisions.md D30). Its opcode bytes and base cycle counts
are the spec's own choice (92_eei_decisions.md D10, D11), which the model follows: log 5; so are the flag each
tests, the PC compared and the value left in addr_abs (93 G11, D30, D7): log 6. -/
def Obligations.BranchesTestTheirFlag : Prop :=
  (∀ d, tableRow (.bcc d) .BCC (.rel d) [0x90, d] 2) ∧
  (∀ d, tableRow (.bcs d) .BCS (.rel d) [0xB0, d] 2) ∧
  (∀ d, tableRow (.beq d) .BEQ (.rel d) [0xF0, d] 2) ∧
  (∀ d, tableRow (.bne d) .BNE (.rel d) [0xD0, d] 2) ∧
  (∀ d, tableRow (.bmi d) .BMI (.rel d) [0x30, d] 2) ∧
  (∀ d, tableRow (.bpl d) .BPL (.rel d) [0x10, d] 2) ∧
  (∀ d, tableRow (.bvc d) .BVC (.rel d) [0x50, d] 2) ∧
  (∀ d, tableRow (.bvs d) .BVS (.rel d) [0x70, d] 2) ∧
  ∀ e ∈ ([(.bcc, .C, false), (.bcs, .C, true), (.beq, .Z, true), (.bne, .Z, false), (.bmi, .N, true), (.bpl, .N, false), (.bvc, .V, false), (.bvs, .V, true)] :
      List ((Byte → Instr) × Flag × Bool)), ∀ (d : Byte) (s : State), ∃ t, exec (e.1 d) s = .next t ∧
    (s.flag e.2.1 ≠ e.2.2 → t.PC = s.PC + 2 ∧ t.addrAbs = s.addrAbs ∧ t.cycles = 2) ∧
    (s.flag e.2.1 = e.2.2 → (t.PC.toNat : Int) = ((s.PC.toNat : Int) + 2 + d.toInt) % 65536 ∧ t.addrAbs = t.PC ∧
      t.cycles = if hi t.PC = hi (s.PC + 2) then 3 else 4) ∧
    t.addrRel = sext16 d ∧ keepsRegsBut [] s t ∧ keepsFlagsBut [] s t ∧ keepsMemBut [] s t

/-- JMP goes to its operand, or to the word at its pointer with the page-wrap defect (derived: 44_branch_jump.md
R219, 92_eei_decisions.md D10, 92_eei_decisions.md D11, 92_eei_decisions.md D17). Its opcode bytes and base cycle
counts are the spec's own choice (92_eei_decisions.md D10, D11), which the model follows: log 5; so is the
operation (D17): log 6. -/
def Obligations.JumpSetsProgramCounter : Prop :=
  (∀ l h, tableRow (.jmpAbs (word h l)) .JMP (.abs (word h l)) [0x4C, l, h] 3) ∧
  (∀ l h, tableRow (.jmpInd (word h l)) .JMP (.ind (word h l)) [0x6C, l, h] 5) ∧
  (∀ (w : Word) (s : State), ∃ t, exec (.jmpAbs w) s = .next t ∧ t.PC = w ∧ t.cycles = 3 ∧ t.addrAbs = t.PC ∧
    keepsRegsBut [] s t ∧ keepsFlagsBut [] s t ∧ keepsMemBut [] s t ∧ t.fetched = s.fetched) ∧
  ∀ (p : Word) (s : State), ∃ t, exec (.jmpInd p) s = .next t ∧
    lo t.PC = s.memRead p ∧
    hi t.PC = s.memRead (if p.toNat % 256 = 255 then BitVec.ofNat 16 (p.toNat - 255) else BitVec.ofNat 16 (p.toNat + 1)) ∧
    t.cycles = 5 ∧ t.addrAbs = t.PC ∧
    keepsRegsBut [] s t ∧ keepsFlagsBut [] s t ∧ keepsMemBut [] s t ∧ t.fetched = s.fetched

/-- JSR pushes the address of its last byte, high byte first, and jumps (derived: 44_branch_jump.md R220,
92_eei_decisions.md D10, 92_eei_decisions.md D11, 92_eei_decisions.md D20). Its opcode bytes and base cycle
counts are the spec's own choice (92_eei_decisions.md D10, D11), which the model follows: log 5; so is the word
pushed (D20): log 6. -/
def Obligations.JumpToSubroutine : Prop :=
  (∀ l h, tableRow (.jsr (word h l)) .JSR (.abs (word h l)) [0x20, l, h] 6) ∧
  ∀ (w : Word) (s : State), ∃ t, exec (.jsr w) s = .next t ∧ t.PC = w ∧ t.SP = s.SP - 2 ∧
    t.memRead (stackAddr s.SP) = hi (s.PC + 2) ∧ t.memRead (stackAddr (s.SP - 1)) = lo (s.PC + 2) ∧
    keepsMemBut [stackAddr s.SP, stackAddr (s.SP - 1)] s t ∧
    keepsRegsBut [.SP] s t ∧ keepsFlagsBut [] s t ∧ t.fetched = s.fetched ∧ t.cycles = 6

/-- RTS pulls a word, low byte first, and goes to it plus 1 (derived: 44_branch_jump.md R221, 92_eei_decisions.md
D10, 92_eei_decisions.md D11, 92_eei_decisions.md D20). Its opcode bytes and base cycle counts are the spec's own
choice (92_eei_decisions.md D10, D11), which the model follows: log 5; so is the 1 added (D20): log 6. -/
def Obligations.ReturnFromSubroutine : Prop :=
  tableRow .rts .RTS .imp [0x60] 6 ∧
  ∀ s : State, ∃ t, exec .rts s = .next t ∧ t.SP = s.SP + 2 ∧
    t.PC.toNat = ((s.memRead (stackAddr (s.SP + 1))).toNat + 256 * (s.memRead (stackAddr (s.SP + 2))).toNat + 1) % 65536 ∧
    keepsRegsBut [.SP] s t ∧ keepsFlagsBut [] s t ∧ keepsMemBut [] s t ∧ t.cycles = 6

/-- JSR then RTS returns behind the JSR; PHA then PLA restores A; both restore SP (derived: 95_test_vectors.md S5,
44_branch_jump.md R222, 45_stack_flags_system.md R230). The stack image is the spec's own choice (D20): log 6. -/
def Obligations.StackPairsRestore : Prop :=
  (∀ (w : Word) (s t u : State), exec (.jsr w) s = .next t → u.SP = t.SP →
    u.memRead (stackAddr s.SP) = t.memRead (stackAddr s.SP) →
    u.memRead (stackAddr (s.SP - 1)) = t.memRead (stackAddr (s.SP - 1)) →
    ∃ v, exec .rts u = .next v ∧ v.PC = s.PC + 3 ∧ v.SP = s.SP) ∧
  ∀ s t u : State, exec .pha s = .next t → u.SP = t.SP → u.memRead (stackAddr s.SP) = t.memRead (stackAddr s.SP) →
    ∃ v, exec .pla u = .next v ∧ v.A = s.A ∧ v.SP = s.SP

/-- PHA writes A at 0x0100 + SP and lowers SP by 1 modulo 256 (derived: 45_stack_flags_system.md R230,
92_eei_decisions.md D10, 92_eei_decisions.md D11, 92_eei_decisions.md D20). Its opcode bytes and base cycle
counts are the spec's own choice (92_eei_decisions.md D10, D11), which the model follows: log 5; so is the order
inside a push (D20): log 6. -/
def Obligations.PushAccumulator : Prop :=
  tableRow .pha .PHA .imp [0x48] 3 ∧
  ∀ s : State, ∃ t, exec .pha s = .next t ∧
    t.memRead (BitVec.ofNat 16 (256 + s.SP.toNat)) = s.A ∧ t.SP.toNat = (s.SP.toNat + 255) % 256 ∧
    keepsMemBut [stackAddr s.SP] s t ∧ keepsRegsBut [.SP] s t ∧ keepsFlagsBut [] s t ∧ goesOn .pha s t false

/-- PHP pushes P with B and U forced to 1 and leaves the live P as it was (derived: 45_stack_flags_system.md R231,
92_eei_decisions.md D10, 92_eei_decisions.md D11, 92_eei_decisions.md D15, 92_eei_decisions.md D20). Its opcode
bytes and base cycle counts are the spec's own choice (92_eei_decisions.md D10, D11), which the model follows:
log 5; so is what the live B holds (D15): log 6. -/
def Obligations.PushStatus : Prop :=
  tableRow .php .PHP .imp [0x08] 3 ∧
  ∀ s : State, ∃ t, exec .php s = .next t ∧
    (∀ f, getFlag (t.memRead (stackAddr s.SP)) f = if f = .B ∨ f = .U then true else s.flag f) ∧
    t.SP = s.SP - 1 ∧ keepsMemBut [stackAddr s.SP] s t ∧ keepsRegsBut [.SP] s t ∧ keepsFlagsBut [] s t ∧
    goesOn .php s t false

/-- PLA raises SP by 1 modulo 256, reads A there and sets Z and N (derived: 45_stack_flags_system.md R232,
92_eei_decisions.md D10, 92_eei_decisions.md D11, 92_eei_decisions.md D17, 92_eei_decisions.md D20). Its opcode
bytes and base cycle counts are the spec's own choice (92_eei_decisions.md D10, D11), which the model follows:
log 5; so are Z and N (D17) and the order inside a pull (D20): log 6. -/
def Obligations.PullAccumulator : Prop :=
  tableRow .pla .PLA .imp [0x68] 4 ∧
  ∀ s : State, ∃ t, exec .pla s = .next t ∧
    t.SP.toNat = (s.SP.toNat + 1) % 256 ∧ t.A = s.memRead (BitVec.ofNat 16 (256 + (s.SP.toNat + 1) % 256)) ∧
    setsZN t t.A ∧ keepsRegsBut [.SP, .A] s t ∧ keepsFlagsBut [.Z, .N] s t ∧ keepsMemBut [] s t ∧
    goesOn .pla s t false

/-- PLP takes all flags but U from the pulled byte and sets U (derived: 45_stack_flags_system.md R233,
92_eei_decisions.md D10, 92_eei_decisions.md D11, 92_eei_decisions.md D20, 92_eei_decisions.md D29). Its opcode
bytes and base cycle counts are the spec's own choice (92_eei_decisions.md D10, D11), which the model follows:
log 5; so is what B takes (D29): log 6. -/
def Obligations.PullStatus : Prop :=
  tableRow .plp .PLP .imp [0x28] 4 ∧
  ∀ s : State, ∃ t, exec .plp s = .next t ∧ t.SP = s.SP + 1 ∧
    (∀ f, t.flag f = if f = .U then true else getFlag (s.memRead (stackAddr (s.SP + 1))) f) ∧
    (getFlag (s.memRead (stackAddr (s.SP + 1))) .I = true ↔ handle .irq t = .next t) ∧
    keepsRegsBut [.SP] s t ∧ keepsMemBut [] s t ∧ goesOn .plp s t false

/-- CLC CLD CLI CLV SEC SED SEI write one flag and change nothing else (derived: 45_stack_flags_system.md R234, R235,
R236, R237, R238, R239, R240, 92_eei_decisions.md D10, 92_eei_decisions.md D11, 92_eei_decisions.md D17). Its
opcode bytes and base cycle counts are the spec's own choice (92_eei_decisions.md D10, D11), which the model
follows: log 5; so are the operations (D17): log 6. -/
def Obligations.FlagInstructionsWriteOneFlag : Prop :=
  tableRow .clc .CLC .imp [0x18] 2 ∧
  tableRow .cld .CLD .imp [0xD8] 2 ∧
  tableRow .cli .CLI .imp [0x58] 2 ∧
  tableRow .clv .CLV .imp [0xB8] 2 ∧
  tableRow .sec .SEC .imp [0x38] 2 ∧
  tableRow .sed .SED .imp [0xF8] 2 ∧
  tableRow .sei .SEI .imp [0x78] 2 ∧
  ∀ e ∈ ([(.clc, .C, false), (.cld, .D, false), (.cli, .I, false), (.clv, .V, false), (.sec, .C, true), (.sed, .D, true), (.sei, .I, true)] :
      List (Instr × Flag × Bool)), ∀ s : State, ∃ t, exec e.1 s = .next t ∧ t.flag e.2.1 = e.2.2 ∧
    keepsFlagsBut [e.2.1] s t ∧ keepsRegsBut [] s t ∧ keepsMemBut [] s t ∧ goesOn e.1 s t false

/-- BRK pushes its address + 2 and P with B set, sets I and goes through the vector 0xFFFE (derived:
45_stack_flags_system.md R241, 92_eei_decisions.md D10, 92_eei_decisions.md D11, 92_eei_decisions.md D14). Its
opcode bytes and base cycle counts are the spec's own choice (92_eei_decisions.md D10, D11), which the model
follows: log 5; so is the return address (D14): log 6. -/
def Obligations.BreakTakesTheTrap : Prop :=
  tableRow .brk .BRK .imp [0x00] 7 ∧
  ∀ s : State, ∃ t, exec .brk s = .next t ∧ trapTaken s t (s.PC + 2) true 0xFFFE ∧
    t.addrAbs = s.addrAbs ∧ t.cycles = 7

/-- RTI pulls P with B cleared and U set, then PC, low byte first, to which nothing is added (derived:
45_stack_flags_system.md R242, 92_eei_decisions.md D10, 92_eei_decisions.md D11, 92_eei_decisions.md D20). Its
opcode bytes and base cycle counts are the spec's own choice (92_eei_decisions.md D10, D11), which the model
follows: log 5; so is the order inside a pull, which fixes the three addresses read (D20): log 6. -/
def Obligations.ReturnFromInterrupt : Prop :=
  tableRow .rti .RTI .imp [0x40] 6 ∧
  ∀ s : State, ∃ t, exec .rti s = .next t ∧ t.SP = s.SP + 3 ∧
    (∀ f, t.flag f = if f = .B then false else if f = .U then true else getFlag (s.memRead (stackAddr (s.SP + 1))) f) ∧
    lo t.PC = s.memRead (stackAddr (s.SP + 2)) ∧ hi t.PC = s.memRead (stackAddr (s.SP + 3)) ∧
    keepsRegsBut [.SP] s t ∧ keepsMemBut [] s t ∧ t.cycles = 6

/-- NOP, the 28 NOP slots and the 77 catch-all slots change nothing but PC and the transient fields (derived:
45_stack_flags_system.md R243, R244, 92_eei_decisions.md D10, 92_eei_decisions.md D11, 92_eei_decisions.md D12,
92_eei_decisions.md D13). Its opcode bytes and base cycle counts are the spec's own choice (92_eei_decisions.md
D10, D11), which the model follows: log 5; so are the split of the slots, their length 1 and the list of six
(D12, D13): log 5. -/
def Obligations.NoOperationsDoNothing : Prop :=
  (tableRow .nop04 .NOP .imp [0x04] 3 ∧
  tableRow .nop0C .NOP .imp [0x0C] 4 ∧
  tableRow .nop14 .NOP .imp [0x14] 4 ∧
  tableRow .nop1A .NOP .imp [0x1A] 2 ∧
  tableRow .nop1C .NOP .imp [0x1C] 4 ∧
  tableRow .nop34 .NOP .imp [0x34] 4 ∧
  tableRow .nop3A .NOP .imp [0x3A] 2 ∧
  tableRow .nop3C .NOP .imp [0x3C] 4 ∧
  tableRow .nop44 .NOP .imp [0x44] 3 ∧
  tableRow .nop54 .NOP .imp [0x54] 4 ∧
  tableRow .nop5A .NOP .imp [0x5A] 2 ∧
  tableRow .nop5C .NOP .imp [0x5C] 4 ∧
  tableRow .nop64 .NOP .imp [0x64] 3) ∧
  (tableRow .nop74 .NOP .imp [0x74] 4 ∧
  tableRow .nop7A .NOP .imp [0x7A] 2 ∧
  tableRow .nop7C .NOP .imp [0x7C] 4 ∧
  tableRow .nop80 .NOP .imp [0x80] 2 ∧
  tableRow .nop82 .NOP .imp [0x82] 2 ∧
  tableRow .nop89 .NOP .imp [0x89] 2 ∧
  tableRow .nop9C .NOP .imp [0x9C] 5 ∧
  tableRow .nopC2 .NOP .imp [0xC2] 2 ∧
  tableRow .nopD4 .NOP .imp [0xD4] 4 ∧
  tableRow .nopDA .NOP .imp [0xDA] 2 ∧
  tableRow .nopDC .NOP .imp [0xDC] 4 ∧
  tableRow .nopE2 .NOP .imp [0xE2] 2 ∧
  tableRow .nop .NOP .imp [0xEA] 2) ∧
  (tableRow .nopF4 .NOP .imp [0xF4] 4 ∧
  tableRow .nopFA .NOP .imp [0xFA] 2 ∧
  tableRow .nopFC .NOP .imp [0xFC] 4) ∧
  (tableRow .xxx02 .XXX .imp [0x02] 2 ∧
  tableRow .xxx03 .XXX .imp [0x03] 8 ∧
  tableRow .xxx07 .XXX .imp [0x07] 5 ∧
  tableRow .xxx0B .XXX .imp [0x0B] 2 ∧
  tableRow .xxx0F .XXX .imp [0x0F] 6 ∧
  tableRow .xxx12 .XXX .imp [0x12] 2 ∧
  tableRow .xxx13 .XXX .imp [0x13] 8 ∧
  tableRow .xxx17 .XXX .imp [0x17] 6 ∧
  tableRow .xxx1B .XXX .imp [0x1B] 7 ∧
  tableRow .xxx1F .XXX .imp [0x1F] 7 ∧
  tableRow .xxx22 .XXX .imp [0x22] 2 ∧
  tableRow .xxx23 .XXX .imp [0x23] 8 ∧
  tableRow .xxx27 .XXX .imp [0x27] 5) ∧
  (tableRow .xxx2B .XXX .imp [0x2B] 2 ∧
  tableRow .xxx2F .XXX .imp [0x2F] 6 ∧
  tableRow .xxx32 .XXX .imp [0x32] 2 ∧
  tableRow .xxx33 .XXX .imp [0x33] 8 ∧
  tableRow .xxx37 .XXX .imp [0x37] 6 ∧
  tableRow .xxx3B .XXX .imp [0x3B] 7 ∧
  tableRow .xxx3F .XXX .imp [0x3F] 7 ∧
  tableRow .xxx42 .XXX .imp [0x42] 2 ∧
  tableRow .xxx43 .XXX .imp [0x43] 8 ∧
  tableRow .xxx47 .XXX .imp [0x47] 5 ∧
  tableRow .xxx4B .XXX .imp [0x4B] 2 ∧
  tableRow .xxx4F .XXX .imp [0x4F] 6 ∧
  tableRow .xxx52 .XXX .imp [0x52] 2) ∧
  (tableRow .xxx53 .XXX .imp [0x53] 8 ∧
  tableRow .xxx57 .XXX .imp [0x57] 6 ∧
  tableRow .xxx5B .XXX .imp [0x5B] 7 ∧
  tableRow .xxx5F .XXX .imp [0x5F] 7 ∧
  tableRow .xxx62 .XXX .imp [0x62] 2 ∧
  tableRow .xxx63 .XXX .imp [0x63] 8 ∧
  tableRow .xxx67 .XXX .imp [0x67] 5 ∧
  tableRow .xxx6B .XXX .imp [0x6B] 2 ∧
  tableRow .xxx6F .XXX .imp [0x6F] 6 ∧
  tableRow .xxx72 .XXX .imp [0x72] 2 ∧
  tableRow .xxx73 .XXX .imp [0x73] 8 ∧
  tableRow .xxx77 .XXX .imp [0x77] 6 ∧
  tableRow .xxx7B .XXX .imp [0x7B] 7) ∧
  (tableRow .xxx7F .XXX .imp [0x7F] 7 ∧
  tableRow .xxx83 .XXX .imp [0x83] 6 ∧
  tableRow .xxx87 .XXX .imp [0x87] 3 ∧
  tableRow .xxx8B .XXX .imp [0x8B] 2 ∧
  tableRow .xxx8F .XXX .imp [0x8F] 4 ∧
  tableRow .xxx92 .XXX .imp [0x92] 2 ∧
  tableRow .xxx93 .XXX .imp [0x93] 6 ∧
  tableRow .xxx97 .XXX .imp [0x97] 4 ∧
  tableRow .xxx9B .XXX .imp [0x9B] 5 ∧
  tableRow .xxx9E .XXX .imp [0x9E] 5 ∧
  tableRow .xxx9F .XXX .imp [0x9F] 5 ∧
  tableRow .xxxA3 .XXX .imp [0xA3] 6 ∧
  tableRow .xxxA7 .XXX .imp [0xA7] 3) ∧
  (tableRow .xxxAB .XXX .imp [0xAB] 2 ∧
  tableRow .xxxAF .XXX .imp [0xAF] 4 ∧
  tableRow .xxxB2 .XXX .imp [0xB2] 2 ∧
  tableRow .xxxB3 .XXX .imp [0xB3] 5 ∧
  tableRow .xxxB7 .XXX .imp [0xB7] 4 ∧
  tableRow .xxxBB .XXX .imp [0xBB] 4 ∧
  tableRow .xxxBF .XXX .imp [0xBF] 4 ∧
  tableRow .xxxC3 .XXX .imp [0xC3] 8 ∧
  tableRow .xxxC7 .XXX .imp [0xC7] 5 ∧
  tableRow .xxxCB .XXX .imp [0xCB] 2 ∧
  tableRow .xxxCF .XXX .imp [0xCF] 6 ∧
  tableRow .xxxD2 .XXX .imp [0xD2] 2 ∧
  tableRow .xxxD3 .XXX .imp [0xD3] 8) ∧
  (tableRow .xxxD7 .XXX .imp [0xD7] 6 ∧
  tableRow .xxxDB .XXX .imp [0xDB] 7 ∧
  tableRow .xxxDF .XXX .imp [0xDF] 7 ∧
  tableRow .xxxE3 .XXX .imp [0xE3] 8 ∧
  tableRow .xxxE7 .XXX .imp [0xE7] 5 ∧
  tableRow .xxxEB .XXX .imp [0xEB] 2 ∧
  tableRow .xxxEF .XXX .imp [0xEF] 6 ∧
  tableRow .xxxF2 .XXX .imp [0xF2] 2 ∧
  tableRow .xxxF3 .XXX .imp [0xF3] 8 ∧
  tableRow .xxxF7 .XXX .imp [0xF7] 6 ∧
  tableRow .xxxFB .XXX .imp [0xFB] 7 ∧
  tableRow .xxxFF .XXX .imp [0xFF] 7) ∧
  ∀ (i : Instr) (s : State), i.op = .NOP ∨ i.op = .XXX → ∃ t, exec i s = .next t ∧
    t.PC = s.PC + 1 ∧ t.cycles = cfg.baseCycles i.opcode ∧ t.fetched = s.A ∧
    keepsRegsBut [] s t ∧ keepsFlagsBut [] s t ∧ keepsMemBut [] s t ∧
    t.addrAbs = s.addrAbs ∧ t.addrRel = s.addrRel ∧ t.temp = s.temp

/-- An Irq event with I clear takes the trap through 0xFFFE; with I set it changes nothing at all (derived:
60_exceptions.md R263, 92_eei_decisions.md D7, 92_eei_decisions.md D16, 92_eei_decisions.md D24,
92_eei_decisions.md D27). What the live P keeps, addr_abs and opcode, and the busy phase are the spec's own
choice (D16, D7, D27, D24): log 6. -/
def Obligations.IrqEventIsMaskedByI : Prop :=
  (∀ s : State, s.flag .I = true → handle .irq s = .next s) ∧
  ∀ s : State, s.flag .I = false → ∃ t, handle .irq s = .next t ∧ trapTaken s t s.PC false 0xFFFE ∧
    t.addrAbs = 0xFFFE ∧ t.cycles = 7 ∧ t.clockCount = s.clockCount ∧ t.opcode = s.opcode ∧
    t.fetched = s.fetched ∧ t.addrRel = s.addrRel ∧ t.temp = s.temp

/-- An Nmi event takes the trap through 0xFFFA whatever I is (derived: 60_exceptions.md R264, 92_eei_decisions.md D7,
92_eei_decisions.md D16, 92_eei_decisions.md D24, 92_eei_decisions.md D27). What the live P keeps, addr_abs and
opcode, and the busy phase are the spec's own choice (D16, D7, D27, D24): log 6. -/
def Obligations.NmiEventIsUnconditional : Prop :=
  ∀ s : State, ∃ t, handle .nmi s = .next t ∧ trapTaken s t s.PC false 0xFFFA ∧
    t.addrAbs = 0xFFFA ∧ t.cycles = 8 ∧ t.clockCount = s.clockCount ∧ t.opcode = s.opcode ∧
    t.fetched = s.fetched ∧ t.addrRel = s.addrRel ∧ t.temp = s.temp

/-- Reset writes every listed field, reads the vector and leaves opcode, temp and memory (derived:
70_reset_and_hazards.md R300, 92_eei_decisions.md D27). That opcode and temp keep their values is the spec's own
choice (D27): log 6. -/
def Obligations.ResetEventReinitialises : Prop :=
  ∀ s : State, ∃ t, handle .reset s = .next t ∧
    t.A = 0x00 ∧ t.X = 0x00 ∧ t.Y = 0x00 ∧ t.SP = 0xFD ∧ t.P = 0x20 ∧
    lo t.PC = s.memRead 0xFFFC ∧ hi t.PC = s.memRead 0xFFFD ∧
    t.fetched = 0x00 ∧ t.addrAbs = 0x0000 ∧ t.addrRel = 0x0000 ∧ t.cycles = 8 ∧ t.clockCount = 0 ∧
    t.opcode = s.opcode ∧ t.temp = s.temp ∧ t.M = s.M ∧ t = State.launch s.M s.opcode s.temp

/-- Two Reset events in direct succession leave what one leaves (R302). -/
def Obligations.ResetIsIdempotent : Prop :=
  ∀ s t : State, handle .reset s = .next t → handle .reset t = .next t

/-- An Irq event that finds I = 1 leaves no trace: every later run is the one without it (R265). -/
def Obligations.MaskedIrqLeavesNoTrace : Prop :=
  (∀ (s : State) (es : List Event), s.flag .I = true → handleAll (.irq :: es) s = handleAll es s) ∧
  ∀ (s t : State) (e : Event) (es : List Event), handle e s = .next t → handleAll (e :: es) s = handleAll es t

/-- After Reset complete is false and becomes true after exactly 8 Clock events, which change only the counters
(R304). -/
def Obligations.ResetCountsDownEightEvents : Prop :=
  ∀ s t : State, handle .reset s = .next t → t.complete = false ∧
  (∀ k, k ≤ 8 → handleAll (List.replicate k .clock) t = .next ((t.setCycles (8 - k)).setClockCount k)) ∧
  t.PC = word (s.memRead 0xFFFD) (s.memRead 0xFFFC) ∧
  ∀ u, exec t.fetchInstr ((t.setCycles 0).setClockCount 8) = .next u →
    handleAll (List.replicate 9 .clock) t = .next u.clockTick

/-- RTI from an untouched BRK, IRQ or NMI frame resumes with SP restored and I set (derived: 60_exceptions.md R271,
60_exceptions.md R268, 45_stack_flags_system.md R241, 45_stack_flags_system.md R242). That the pushed P has I set
and what BRK pushes are the spec's own choice (D16, D14): log 6. -/
def Obligations.ReturnFromUnmodifiedFrame : Prop :=
  ∀ (s t u : State) (ret : Word),
  ((exec .brk s = .next t ∧ ret = s.PC + 2) ∨ (handle .irq s = .next t ∧ s.flag .I = false ∧ ret = s.PC) ∨
    (handle .nmi s = .next t ∧ ret = s.PC)) →
  u.SP = t.SP → u.M = t.M →
  ∃ v, exec .rti u = .next v ∧ v.PC = ret ∧ v.SP = s.SP ∧
    ∀ f, v.flag f = if f = .B then false else if f = .I ∨ f = .U then true else s.flag f

/-- An Irq after an Nmi is dropped; an Nmi after an accepted Irq nests on it (derived: 60_exceptions.md R267,
60_exceptions.md R265, 92_eei_decisions.md D16, 92_eei_decisions.md D20, 92_eei_decisions.md D24). That Nmi sets
the live I (D16), that both are taken in the busy phase (D24) and where the frames lie (D20) are the spec's own
choice: log 6. -/
def Obligations.NmiAndIrqTakeEffectInTheOrderIssued : Prop :=
  (∀ s : State, handleAll [.nmi, .irq] s = handleAll [.nmi] s) ∧
  ∀ s : State, s.flag .I = false → ∃ t, handleAll [.irq, .nmi] s = .next t ∧
    t.PC = word (s.memRead 0xFFFB) (s.memRead 0xFFFA) ∧ t.cycles = 8 ∧ t.SP = s.SP - 6 ∧
    t.memRead (stackAddr (s.SP - 3)) = s.memRead 0xFFFF ∧ t.memRead (stackAddr (s.SP - 4)) = s.memRead 0xFFFE

/-- A write sets its byte and no other; a read changes nothing; a HostWrite changes memory alone; Reset changes no
memory (derived: 20_memory.md R61, R62, R63, R64, R78, R79, 92_eei_decisions.md D9, 92_eei_decisions.md D26). The
dropped write and the ignored qualifier are decisions of the spec (D26, D9): log 10. -/
def Obligations.MemoryReadAfterWrite : Prop :=
  (∀ (s : State) (a b : Word) (v : Byte), (s.memWrite a v).memRead b = if b = a then v else s.memRead b) ∧
  (∀ (s : State) (a : Word) (v : Byte), handle (.hostWrite a v) s = .next (s.memWrite a v) ∧
    { s.memWrite a v with M := s.M } = s) ∧
  (∀ (m : Memory) (a b : Nat) (v : Byte) (q : Bool), (m.busWrite a v).busRead b q =
    if a < 65536 ∧ b % 65536 = a then v else m.busRead (b % 65536) false) ∧
  (∀ (m : Memory) (a : Nat) (v : Byte), 65536 ≤ a → m.busWrite a v = m) ∧
  ∀ s t : State, handle .reset s = .next t → t.M = s.M

/-- Every write keeps the canonical form of memory, and canonical memories that read alike are equal (derived:
20_memory.md R60, 20_memory.md R62). -/
def Obligations.CanonicalMemoryIsKeptAndUnique : Prop :=
  (∀ (m : Memory) (a : Nat) (v : Byte), m.wf → (m.busWrite a v).wf) ∧
  ∀ m n : Memory, m.wf → n.wf → (∀ a : Word, m.busRead a.toNat false = n.busRead a.toNat false) → m = n

/-- Every 16-bit quantity has its low byte at the lower address: operands, vectors, pointers, pushed return addresses
(derived: 20_memory.md R65, R70, 92_eei_decisions.md D19, 92_eei_decisions.md D20). Where the second byte of a
zero-page pointer and of a pushed word lies when the address wraps is the spec's own choice (D19, D20): log 6. -/
def Obligations.SixteenBitQuantitiesAreLittleEndian : Prop :=
  (∀ (i : Instr) (w : Word), i.mode ∈ [.abs w, .abx w, .aby w, .ind w] → encode i = [i.opcode, lo w, hi w]) ∧
  (∀ (s : State) (w : Word), s.fetchInstr.mode ∈ [.abs w, .abx w, .aby w, .ind w] →
    lo w = s.memRead (s.PC + 1) ∧ hi w = s.memRead (s.PC + 2)) ∧
  (∀ s t : State, handle .reset s = .next t → lo t.PC = s.memRead 0xFFFC ∧ hi t.PC = s.memRead 0xFFFD) ∧
  (∀ s t : State, handle .nmi s = .next t → lo t.PC = s.memRead 0xFFFA ∧ hi t.PC = s.memRead 0xFFFB) ∧
  (∀ s t : State, exec .brk s = .next t ∨ (handle .irq s = .next t ∧ s.flag .I = false) →
    lo t.PC = s.memRead 0xFFFE ∧ hi t.PC = s.memRead 0xFFFF) ∧
  (∀ (s : State) (w : Word), lo (effAddr (.ind w) s) = s.memRead w ∧
    (lo w ≠ 0xFF → hi (effAddr (.ind w) s) = s.memRead (w + 1))) ∧
  (∀ (s : State) (z : Byte), lo (effAddr (.izx z) s) = s.memRead (zext16 (z + s.X)) ∧
    hi (effAddr (.izx z) s) = s.memRead (zext16 (z + s.X + 1))) ∧
  (∀ (s : State) (z : Byte), s.Y = 0 → lo (effAddr (.izy z) s) = s.memRead (zext16 z) ∧
    hi (effAddr (.izy z) s) = s.memRead (zext16 (z + 1))) ∧
  (∀ (s : State) (w : Word), (s.pushWord w).memRead (stackAddr s.SP) = hi w ∧
    (s.pushWord w).memRead (stackAddr (s.SP - 1)) = lo w) ∧
  ∀ (s : State) (w : Word), (s.pushWord w).pullWord.1 = w ∧ (s.pushWord w).pullWord.2.SP = s.SP

/-- A, X, Y, SP and PC change only by the instructions the spec lists as their writers (derived: 10_state.md R20,
10_state.md R21, 10_state.md R22). -/
def Obligations.RegistersAreWrittenOnlyByTheirInstructions : Prop :=
  ∀ (i : Instr) (s t : State), exec i s = .next t →
  (t.A ≠ s.A → i.op ∈ [.LDA, .TXA, .TYA, .PLA, .AND, .ORA, .EOR, .ADC, .SBC] ∨
    (i.op ∈ [.ASL, .LSR, .ROL, .ROR] ∧ i.mode = .imp)) ∧
  (t.X ≠ s.X → i.op ∈ [.LDX, .TAX, .TSX, .INX, .DEX]) ∧
  (t.Y ≠ s.Y → i.op ∈ [.LDY, .TAY, .INY, .DEY]) ∧
  (t.SP ≠ s.SP → i.op ∈ [.PHA, .PHP, .PLA, .PLP, .JSR, .RTS, .BRK, .RTI, .TXS]) ∧
  (t.PC ≠ nextPC i s → i.op ∈ [.BCC, .BCS, .BEQ, .BNE, .BMI, .BPL, .BVC, .BVS, .JMP, .JSR, .RTS, .RTI, .BRK])

/-- Each flag changes only by the instructions the spec lists as its writers (derived: 10_state.md R24, 10_state.md
R25, 10_state.md R26, 10_state.md R27, 10_state.md R29, 10_state.md R30, 10_state.md R31). -/
def Obligations.FlagsAreWrittenOnlyByTheirInstructions : Prop :=
  ∀ (i : Instr) (s t : State), exec i s = .next t →
  t.flag .U = true ∧
  (t.flag .C ≠ s.flag .C → i.op ∈ [.ADC, .SBC, .CMP, .CPX, .CPY, .ASL, .ROL, .LSR, .ROR, .CLC, .SEC, .PLP, .RTI]) ∧
  (t.flag .Z ≠ s.flag .Z ∨ t.flag .N ≠ s.flag .N →
    i.op ∈ [.LDA, .LDX, .LDY, .TAX, .TAY, .TXA, .TYA, .TSX, .PLA, .AND, .ORA, .EOR, .ADC, .SBC, .CMP, .CPX, .CPY,
      .ASL, .LSR, .ROL, .ROR, .INC, .DEC, .INX, .INY, .DEX, .DEY, .BIT, .PLP, .RTI]) ∧
  (t.flag .I ≠ s.flag .I → i.op ∈ [.SEI, .CLI, .BRK, .PLP, .RTI]) ∧
  (t.flag .D ≠ s.flag .D → i.op ∈ [.SED, .CLD, .PLP, .RTI]) ∧
  (t.flag .V ≠ s.flag .V → i.op ∈ [.ADC, .SBC, .BIT, .CLV, .PLP, .RTI])

/-- The live B flag can become 1 only by PLP; BRK, RTI, an accepted Irq, Nmi and Reset leave it 0 (derived:
10_state.md R28, 92_eei_decisions.md D15, 92_eei_decisions.md D16, 92_eei_decisions.md D29). What B holds after
PHP, PLP and an interrupt is the spec's own choice (D15, D29, D16): log 6. -/
def Obligations.BreakFlagRisesOnlyByPLP : Prop :=
  (∀ (i : Instr) (s t : State), exec i s = .next t → t.flag .B = true →
    i.op = .PLP ∨ (s.flag .B = true ∧ i.op ≠ .BRK ∧ i.op ≠ .RTI)) ∧
  ∀ (e : Event) (s t : State), handle e s = .next t → e = .reset ∨ e = .nmi ∨ (e = .irq ∧ s.flag .I = false) →
    t.flag .B = false

/-- Only stores, read-modify-write instructions and pushes change memory, and only at their effective address or in
the stack page (derived: 20_memory.md R67, 20_memory.md R79). -/
def Obligations.MemoryIsWrittenOnlyByStoringInstructions : Prop :=
  ∀ (i : Instr) (s t : State), exec i s = .next t →
  (∀ a, t.memRead a ≠ s.memRead a →
    (i.op ∈ [.STA, .STX, .STY, .INC, .DEC, .ASL, .LSR, .ROL, .ROR] ∧ i.mode ≠ .imp ∧ a = effAddr i.mode s) ∨
    (i.op ∈ [.PHA, .PHP, .JSR, .BRK] ∧ 0x0100 ≤ a.toNat ∧ a.toNat ≤ 0x01FF)) ∧
  (i.op ∉ [.STA, .STX, .STY, .INC, .DEC, .ASL, .LSR, .ROL, .ROR, .PHA, .PHP, .JSR, .BRK] ∨
    (i.op ∈ [.ASL, .LSR, .ROL, .ROR] ∧ i.mode = .imp) → t.M = s.M)

/-- What every instruction leaves in opcode, fetched, addr_abs, addr_rel, temp and clock_count (derived: 10_state.md
R33, R34, R35, R36, R37, R39, 40_step_and_addressing.md R139, 92_eei_decisions.md D7). The values left in the
scratch fields are the spec's own choice (D7): log 6. -/
def Obligations.TransientFieldsFollowTheirRules : Prop :=
  ∀ (i : Instr) (s t : State), exec i s = .next t →
  t.opcode = i.opcode ∧ t.clockCount = s.clockCount ∧
  (i.mode = .imp ∨ i.op ∉ [.STA, .STX, .STY, .JMP, .JSR, .BCC, .BCS, .BEQ, .BNE, .BMI, .BPL, .BVC, .BVS] →
    t.fetched = operandOf i.mode s) ∧
  (i.op ∈ [.STA, .STX, .STY, .JMP, .JSR, .BCC, .BCS, .BEQ, .BNE, .BMI, .BPL, .BVC, .BVS] → t.fetched = s.fetched) ∧
  (i.mode = .imp → t.addrAbs = s.addrAbs) ∧
  (i.mode.kind = .IMM → t.addrAbs = s.PC + 1) ∧
  (i.mode.kind ∉ [.IMP, .IMM, .REL] → t.addrAbs = effAddr i.mode s) ∧
  (∀ d, i.mode = .rel d → t.addrRel = sext16 d ∧
    ∀ e ∈ ([(.BCC, .C, false), (.BCS, .C, true), (.BEQ, .Z, true), (.BNE, .Z, false), (.BMI, .N, true), (.BPL, .N, false),
        (.BVC, .V, false), (.BVS, .V, true)] : List (Op × Flag × Bool)), i.op = e.1 →
      t.addrAbs = if s.flag e.2.1 = e.2.2 then s.PC + 2 + sext16 d else s.addrAbs) ∧
  (i.mode.kind ≠ .REL → t.addrRel = s.addrRel) ∧
  t.temp.toNat = match i.op with
    | .ADC => s.A.toNat + (operandOf i.mode s).toNat + (s.flag .C).toNat
    | .SBC => s.A.toNat + (255 - (operandOf i.mode s).toNat) + (s.flag .C).toNat
    | .CMP => (s.A.toNat + 65536 - (operandOf i.mode s).toNat) % 65536
    | .CPX => (s.X.toNat + 65536 - (operandOf i.mode s).toNat) % 65536
    | .CPY => (s.Y.toNat + 65536 - (operandOf i.mode s).toNat) % 65536
    | .BIT => (s.A &&& operandOf i.mode s).toNat
    | .ASL => 2 * (operandOf i.mode s).toNat
    | .LSR => (operandOf i.mode s).toNat / 2
    | .ROL => 2 * (operandOf i.mode s).toNat + (s.flag .C).toNat
    | .ROR => 128 * (s.flag .C).toNat + (operandOf i.mode s).toNat / 2
    | .INC => (operandOf i.mode s).toNat + 1
    | .DEC => ((operandOf i.mode s).toNat + 65535) % 65536
    | _ => s.temp.toNat

/-- Running with D flipped gives the same result with D flipped (R180). -/
def Obligations.DecimalFlagHasNoEffect : Prop :=
  (∀ (i : Instr) (s t : State) (b : Bool), i.op ∉ [.PHP, .BRK, .PLP, .RTI, .CLD, .SED] →
    exec i s = .next t → exec i (s.setFlag .D b) = .next (t.setFlag .D b)) ∧
  (∀ (i : Instr) (s : State) (b : Bool), i.op ∈ [.PLP, .RTI, .CLD, .SED] → exec i (s.setFlag .D b) = exec i s) ∧
  ∀ s : State, s.flag .D = true → s.A = 0x09 → s.flag .C = false → ∃ t, exec (.adcImm 0x01) s = .next t ∧ t.A = 0x0A

/-- No effect depends on cycles or clock_count; a configuration changes the length of instructions and nothing else
(derived: 70_reset_and_hazards.md R310, 00_scope.md R5, 30_encoding.md R97, R99, 40_step_and_addressing.md R138).
The default configuration is the spec's own choice (D11, D12, D13): log 5. -/
def Obligations.TimingDoesNotFeedBack : Prop :=
  (∀ (i : Instr) (s t : State) (n k : Nat), exec i s = .next t →
    exec i ((s.setCycles n).setClockCount k) = .next (t.setClockCount k)) ∧
  (∀ (s : State) (n k : Nat),
    handle .reset ((s.setCycles n).setClockCount k) = handle .reset s ∧
    (∀ t, handle .nmi s = .next t → handle .nmi ((s.setCycles n).setClockCount k) = .next (t.setClockCount k)) ∧
    (∀ t, s.flag .I = false → handle .irq s = .next t →
      handle .irq ((s.setCycles n).setClockCount k) = .next (t.setClockCount k)) ∧
    (s.flag .I = true →
      handle .irq ((s.setCycles n).setClockCount k) = .next ((s.setCycles n).setClockCount k))) ∧
  (∀ (i : Instr) (s : State), exec i s = execIn cfg i s ∧ step s = stepIn cfg s) ∧
  (∀ (c : Config) (i : Instr) (s t : State), exec i s = .next t → ∃ u, execIn c i s = .next u ∧
    u = t.setCycles u.cycles ∧ u.cycles + cfg.baseCycles i.opcode = t.cycles + c.baseCycles i.opcode) ∧
  (∀ (c : Config) (s : State), s.cycles ≠ 0 → stepIn c s = step s) ∧
  (∀ (c : Config) (s u : State), s.cycles = 0 → execIn c s.fetchInstr s = .next u →
    stepIn c s = .next ((u.setClockCount (u.clockCount + 1)).setCycles (u.cycles - 1))) ∧
  ∀ (c : Config) (e : Event) (s : State), c.wellFormed → e ≠ .clock → handleIn c e s = handle e s

/-- The invariant holds at State.reset and after a Reset event on any canonical memory (derived: 10_state.md R32,
10_state.md R38, 10_state.md R43). -/
def Obligations.InvariantHoldsAtReset : Prop :=
  State.reset.inv ∧ ∀ (M0 : Memory) (opcode0 : Byte) (temp0 : Word), M0.wf → (State.launch M0 opcode0 temp0).inv

/-- Every step from a state with the invariant leads to a state with the invariant (derived: 10_state.md R32,
10_state.md R38, 10_state.md R42). -/
def Obligations.StepKeepsTheInvariant : Prop :=
  ∀ s t : State, s.inv → step s = .next t → t.inv

/-- From every state with the invariant, every sequence of events runs on and keeps it (derived: 10_state.md R32,
10_state.md R38, 10_state.md R42, 00_scope.md R9, 60_exceptions.md R262). -/
def Obligations.EveryRunIsSafe : Prop :=
  ∀ s : State, s.inv → s.safe
end

