-- ==== Sys2Proof/Laws/Decode.lean ====
section
/-! SUPPORT. The word and byte helpers, and the totality of the opcode matrix. -/

namespace Sys2Proof

theorem toNat_hi (w : Word) : (hi w).toNat = w.toNat / 256 := by
  have := w.isLt
  simp [hi, Nat.shiftRight_eq_div_pow]
  omega

theorem toNat_lo (w : Word) : (lo w).toNat = w.toNat % 256 := by
  simp [lo]

theorem toNat_word (h l : Byte) : (word h l).toNat = h.toNat * 256 + l.toNat := by
  have := h.isLt
  have := l.isLt
  simp [word]
  omega

@[simp] theorem hi_word (h l : Byte) : hi (word h l) = h := by
  have := l.isLt
  apply BitVec.eq_of_toNat_eq
  rw [toNat_hi, toNat_word]
  omega

@[simp] theorem lo_word (h l : Byte) : lo (word h l) = l := by
  have := l.isLt
  apply BitVec.eq_of_toNat_eq
  rw [toNat_lo, toNat_word]
  omega

@[simp] theorem word_hi_lo (w : Word) : word (hi w) (lo w) = w := by
  apply BitVec.eq_of_toNat_eq
  rw [toNat_word, toNat_hi, toNat_lo]
  omega

@[simp] theorem toNat_zext16 (b : Byte) : (zext16 b).toNat = b.toNat := by
  have := b.isLt
  simp [zext16]
  omega

/-- Each of the 256 opcode bytes has a cell in the matrix (30_encoding.md R95). -/
theorem Laws.matrixEntry_isSome (opc : Byte) : (matrixEntry opc).isSome = true := by
  revert opc
  decide

/-- The default configuration is well formed (00_scope.md R5; 92_eei_decisions.md D6). -/
theorem cfg_wellFormed : cfg.wellFormed := by
  refine ⟨?_, rfl, rfl, rfl⟩
  decide

theorem cfg_baseCycles_le (opc : Byte) : cfg.baseCycles opc ≤ 8 := by
  revert opc
  decide

end Sys2Proof
end

