-- ==== Sys2Proof/Laws/State.lean ====
section
/-! SUPPORT. One lemma for each field and each named update of `State`: what the field is after the update. -/

namespace Sys2Proof.Machine

@[simp] theorem State.setA_A (s : State) (v) : (s.setA v).A = v := rfl
@[simp] theorem State.setA_X (s : State) (v) : (s.setA v).X = s.X := rfl
@[simp] theorem State.setA_Y (s : State) (v) : (s.setA v).Y = s.Y := rfl
@[simp] theorem State.setA_SP (s : State) (v) : (s.setA v).SP = s.SP := rfl
@[simp] theorem State.setA_P (s : State) (v) : (s.setA v).P = s.P := rfl
@[simp] theorem State.setA_PC (s : State) (v) : (s.setA v).PC = s.PC := rfl
@[simp] theorem State.setA_fetched (s : State) (v) : (s.setA v).fetched = s.fetched := rfl
@[simp] theorem State.setA_opcode (s : State) (v) : (s.setA v).opcode = s.opcode := rfl
@[simp] theorem State.setA_addrAbs (s : State) (v) : (s.setA v).addrAbs = s.addrAbs := rfl
@[simp] theorem State.setA_addrRel (s : State) (v) : (s.setA v).addrRel = s.addrRel := rfl
@[simp] theorem State.setA_temp (s : State) (v) : (s.setA v).temp = s.temp := rfl
@[simp] theorem State.setA_cycles (s : State) (v) : (s.setA v).cycles = s.cycles := rfl
@[simp] theorem State.setA_clockCount (s : State) (v) : (s.setA v).clockCount = s.clockCount := rfl
@[simp] theorem State.setA_M (s : State) (v) : (s.setA v).M = s.M := rfl
@[simp] theorem State.setX_A (s : State) (v) : (s.setX v).A = s.A := rfl
@[simp] theorem State.setX_X (s : State) (v) : (s.setX v).X = v := rfl
@[simp] theorem State.setX_Y (s : State) (v) : (s.setX v).Y = s.Y := rfl
@[simp] theorem State.setX_SP (s : State) (v) : (s.setX v).SP = s.SP := rfl
@[simp] theorem State.setX_P (s : State) (v) : (s.setX v).P = s.P := rfl
@[simp] theorem State.setX_PC (s : State) (v) : (s.setX v).PC = s.PC := rfl
@[simp] theorem State.setX_fetched (s : State) (v) : (s.setX v).fetched = s.fetched := rfl
@[simp] theorem State.setX_opcode (s : State) (v) : (s.setX v).opcode = s.opcode := rfl
@[simp] theorem State.setX_addrAbs (s : State) (v) : (s.setX v).addrAbs = s.addrAbs := rfl
@[simp] theorem State.setX_addrRel (s : State) (v) : (s.setX v).addrRel = s.addrRel := rfl
@[simp] theorem State.setX_temp (s : State) (v) : (s.setX v).temp = s.temp := rfl
@[simp] theorem State.setX_cycles (s : State) (v) : (s.setX v).cycles = s.cycles := rfl
@[simp] theorem State.setX_clockCount (s : State) (v) : (s.setX v).clockCount = s.clockCount := rfl
@[simp] theorem State.setX_M (s : State) (v) : (s.setX v).M = s.M := rfl
@[simp] theorem State.setY_A (s : State) (v) : (s.setY v).A = s.A := rfl
@[simp] theorem State.setY_X (s : State) (v) : (s.setY v).X = s.X := rfl
@[simp] theorem State.setY_Y (s : State) (v) : (s.setY v).Y = v := rfl
@[simp] theorem State.setY_SP (s : State) (v) : (s.setY v).SP = s.SP := rfl
@[simp] theorem State.setY_P (s : State) (v) : (s.setY v).P = s.P := rfl
@[simp] theorem State.setY_PC (s : State) (v) : (s.setY v).PC = s.PC := rfl
@[simp] theorem State.setY_fetched (s : State) (v) : (s.setY v).fetched = s.fetched := rfl
@[simp] theorem State.setY_opcode (s : State) (v) : (s.setY v).opcode = s.opcode := rfl
@[simp] theorem State.setY_addrAbs (s : State) (v) : (s.setY v).addrAbs = s.addrAbs := rfl
@[simp] theorem State.setY_addrRel (s : State) (v) : (s.setY v).addrRel = s.addrRel := rfl
@[simp] theorem State.setY_temp (s : State) (v) : (s.setY v).temp = s.temp := rfl
@[simp] theorem State.setY_cycles (s : State) (v) : (s.setY v).cycles = s.cycles := rfl
@[simp] theorem State.setY_clockCount (s : State) (v) : (s.setY v).clockCount = s.clockCount := rfl
@[simp] theorem State.setY_M (s : State) (v) : (s.setY v).M = s.M := rfl
@[simp] theorem State.setSP_A (s : State) (v) : (s.setSP v).A = s.A := rfl
@[simp] theorem State.setSP_X (s : State) (v) : (s.setSP v).X = s.X := rfl
@[simp] theorem State.setSP_Y (s : State) (v) : (s.setSP v).Y = s.Y := rfl
@[simp] theorem State.setSP_SP (s : State) (v) : (s.setSP v).SP = v := rfl
@[simp] theorem State.setSP_P (s : State) (v) : (s.setSP v).P = s.P := rfl
@[simp] theorem State.setSP_PC (s : State) (v) : (s.setSP v).PC = s.PC := rfl
@[simp] theorem State.setSP_fetched (s : State) (v) : (s.setSP v).fetched = s.fetched := rfl
@[simp] theorem State.setSP_opcode (s : State) (v) : (s.setSP v).opcode = s.opcode := rfl
@[simp] theorem State.setSP_addrAbs (s : State) (v) : (s.setSP v).addrAbs = s.addrAbs := rfl
@[simp] theorem State.setSP_addrRel (s : State) (v) : (s.setSP v).addrRel = s.addrRel := rfl
@[simp] theorem State.setSP_temp (s : State) (v) : (s.setSP v).temp = s.temp := rfl
@[simp] theorem State.setSP_cycles (s : State) (v) : (s.setSP v).cycles = s.cycles := rfl
@[simp] theorem State.setSP_clockCount (s : State) (v) : (s.setSP v).clockCount = s.clockCount := rfl
@[simp] theorem State.setSP_M (s : State) (v) : (s.setSP v).M = s.M := rfl
@[simp] theorem State.setP_A (s : State) (v) : (s.setP v).A = s.A := rfl
@[simp] theorem State.setP_X (s : State) (v) : (s.setP v).X = s.X := rfl
@[simp] theorem State.setP_Y (s : State) (v) : (s.setP v).Y = s.Y := rfl
@[simp] theorem State.setP_SP (s : State) (v) : (s.setP v).SP = s.SP := rfl
@[simp] theorem State.setP_P (s : State) (v) : (s.setP v).P = v := rfl
@[simp] theorem State.setP_PC (s : State) (v) : (s.setP v).PC = s.PC := rfl
@[simp] theorem State.setP_fetched (s : State) (v) : (s.setP v).fetched = s.fetched := rfl
@[simp] theorem State.setP_opcode (s : State) (v) : (s.setP v).opcode = s.opcode := rfl
@[simp] theorem State.setP_addrAbs (s : State) (v) : (s.setP v).addrAbs = s.addrAbs := rfl
@[simp] theorem State.setP_addrRel (s : State) (v) : (s.setP v).addrRel = s.addrRel := rfl
@[simp] theorem State.setP_temp (s : State) (v) : (s.setP v).temp = s.temp := rfl
@[simp] theorem State.setP_cycles (s : State) (v) : (s.setP v).cycles = s.cycles := rfl
@[simp] theorem State.setP_clockCount (s : State) (v) : (s.setP v).clockCount = s.clockCount := rfl
@[simp] theorem State.setP_M (s : State) (v) : (s.setP v).M = s.M := rfl
@[simp] theorem State.setPC_A (s : State) (v) : (s.setPC v).A = s.A := rfl
@[simp] theorem State.setPC_X (s : State) (v) : (s.setPC v).X = s.X := rfl
@[simp] theorem State.setPC_Y (s : State) (v) : (s.setPC v).Y = s.Y := rfl
@[simp] theorem State.setPC_SP (s : State) (v) : (s.setPC v).SP = s.SP := rfl
@[simp] theorem State.setPC_P (s : State) (v) : (s.setPC v).P = s.P := rfl
@[simp] theorem State.setPC_PC (s : State) (v) : (s.setPC v).PC = v := rfl
@[simp] theorem State.setPC_fetched (s : State) (v) : (s.setPC v).fetched = s.fetched := rfl
@[simp] theorem State.setPC_opcode (s : State) (v) : (s.setPC v).opcode = s.opcode := rfl
@[simp] theorem State.setPC_addrAbs (s : State) (v) : (s.setPC v).addrAbs = s.addrAbs := rfl
@[simp] theorem State.setPC_addrRel (s : State) (v) : (s.setPC v).addrRel = s.addrRel := rfl
@[simp] theorem State.setPC_temp (s : State) (v) : (s.setPC v).temp = s.temp := rfl
@[simp] theorem State.setPC_cycles (s : State) (v) : (s.setPC v).cycles = s.cycles := rfl
@[simp] theorem State.setPC_clockCount (s : State) (v) : (s.setPC v).clockCount = s.clockCount := rfl
@[simp] theorem State.setPC_M (s : State) (v) : (s.setPC v).M = s.M := rfl
@[simp] theorem State.setFetched_A (s : State) (v) : (s.setFetched v).A = s.A := rfl
@[simp] theorem State.setFetched_X (s : State) (v) : (s.setFetched v).X = s.X := rfl
@[simp] theorem State.setFetched_Y (s : State) (v) : (s.setFetched v).Y = s.Y := rfl
@[simp] theorem State.setFetched_SP (s : State) (v) : (s.setFetched v).SP = s.SP := rfl
@[simp] theorem State.setFetched_P (s : State) (v) : (s.setFetched v).P = s.P := rfl
@[simp] theorem State.setFetched_PC (s : State) (v) : (s.setFetched v).PC = s.PC := rfl
@[simp] theorem State.setFetched_fetched (s : State) (v) : (s.setFetched v).fetched = v := rfl
@[simp] theorem State.setFetched_opcode (s : State) (v) : (s.setFetched v).opcode = s.opcode := rfl
@[simp] theorem State.setFetched_addrAbs (s : State) (v) : (s.setFetched v).addrAbs = s.addrAbs := rfl
@[simp] theorem State.setFetched_addrRel (s : State) (v) : (s.setFetched v).addrRel = s.addrRel := rfl
@[simp] theorem State.setFetched_temp (s : State) (v) : (s.setFetched v).temp = s.temp := rfl
@[simp] theorem State.setFetched_cycles (s : State) (v) : (s.setFetched v).cycles = s.cycles := rfl
@[simp] theorem State.setFetched_clockCount (s : State) (v) : (s.setFetched v).clockCount = s.clockCount := rfl
@[simp] theorem State.setFetched_M (s : State) (v) : (s.setFetched v).M = s.M := rfl
@[simp] theorem State.setOpcode_A (s : State) (v) : (s.setOpcode v).A = s.A := rfl
@[simp] theorem State.setOpcode_X (s : State) (v) : (s.setOpcode v).X = s.X := rfl
@[simp] theorem State.setOpcode_Y (s : State) (v) : (s.setOpcode v).Y = s.Y := rfl
@[simp] theorem State.setOpcode_SP (s : State) (v) : (s.setOpcode v).SP = s.SP := rfl
@[simp] theorem State.setOpcode_P (s : State) (v) : (s.setOpcode v).P = s.P := rfl
@[simp] theorem State.setOpcode_PC (s : State) (v) : (s.setOpcode v).PC = s.PC := rfl
@[simp] theorem State.setOpcode_fetched (s : State) (v) : (s.setOpcode v).fetched = s.fetched := rfl
@[simp] theorem State.setOpcode_opcode (s : State) (v) : (s.setOpcode v).opcode = v := rfl
@[simp] theorem State.setOpcode_addrAbs (s : State) (v) : (s.setOpcode v).addrAbs = s.addrAbs := rfl
@[simp] theorem State.setOpcode_addrRel (s : State) (v) : (s.setOpcode v).addrRel = s.addrRel := rfl
@[simp] theorem State.setOpcode_temp (s : State) (v) : (s.setOpcode v).temp = s.temp := rfl
@[simp] theorem State.setOpcode_cycles (s : State) (v) : (s.setOpcode v).cycles = s.cycles := rfl
@[simp] theorem State.setOpcode_clockCount (s : State) (v) : (s.setOpcode v).clockCount = s.clockCount := rfl
@[simp] theorem State.setOpcode_M (s : State) (v) : (s.setOpcode v).M = s.M := rfl
@[simp] theorem State.setAddrAbs_A (s : State) (v) : (s.setAddrAbs v).A = s.A := rfl
@[simp] theorem State.setAddrAbs_X (s : State) (v) : (s.setAddrAbs v).X = s.X := rfl
@[simp] theorem State.setAddrAbs_Y (s : State) (v) : (s.setAddrAbs v).Y = s.Y := rfl
@[simp] theorem State.setAddrAbs_SP (s : State) (v) : (s.setAddrAbs v).SP = s.SP := rfl
@[simp] theorem State.setAddrAbs_P (s : State) (v) : (s.setAddrAbs v).P = s.P := rfl
@[simp] theorem State.setAddrAbs_PC (s : State) (v) : (s.setAddrAbs v).PC = s.PC := rfl
@[simp] theorem State.setAddrAbs_fetched (s : State) (v) : (s.setAddrAbs v).fetched = s.fetched := rfl
@[simp] theorem State.setAddrAbs_opcode (s : State) (v) : (s.setAddrAbs v).opcode = s.opcode := rfl
@[simp] theorem State.setAddrAbs_addrAbs (s : State) (v) : (s.setAddrAbs v).addrAbs = v := rfl
@[simp] theorem State.setAddrAbs_addrRel (s : State) (v) : (s.setAddrAbs v).addrRel = s.addrRel := rfl
@[simp] theorem State.setAddrAbs_temp (s : State) (v) : (s.setAddrAbs v).temp = s.temp := rfl
@[simp] theorem State.setAddrAbs_cycles (s : State) (v) : (s.setAddrAbs v).cycles = s.cycles := rfl
@[simp] theorem State.setAddrAbs_clockCount (s : State) (v) : (s.setAddrAbs v).clockCount = s.clockCount := rfl
@[simp] theorem State.setAddrAbs_M (s : State) (v) : (s.setAddrAbs v).M = s.M := rfl
@[simp] theorem State.setAddrRel_A (s : State) (v) : (s.setAddrRel v).A = s.A := rfl
@[simp] theorem State.setAddrRel_X (s : State) (v) : (s.setAddrRel v).X = s.X := rfl
@[simp] theorem State.setAddrRel_Y (s : State) (v) : (s.setAddrRel v).Y = s.Y := rfl
@[simp] theorem State.setAddrRel_SP (s : State) (v) : (s.setAddrRel v).SP = s.SP := rfl
@[simp] theorem State.setAddrRel_P (s : State) (v) : (s.setAddrRel v).P = s.P := rfl
@[simp] theorem State.setAddrRel_PC (s : State) (v) : (s.setAddrRel v).PC = s.PC := rfl
@[simp] theorem State.setAddrRel_fetched (s : State) (v) : (s.setAddrRel v).fetched = s.fetched := rfl
@[simp] theorem State.setAddrRel_opcode (s : State) (v) : (s.setAddrRel v).opcode = s.opcode := rfl
@[simp] theorem State.setAddrRel_addrAbs (s : State) (v) : (s.setAddrRel v).addrAbs = s.addrAbs := rfl
@[simp] theorem State.setAddrRel_addrRel (s : State) (v) : (s.setAddrRel v).addrRel = v := rfl
@[simp] theorem State.setAddrRel_temp (s : State) (v) : (s.setAddrRel v).temp = s.temp := rfl
@[simp] theorem State.setAddrRel_cycles (s : State) (v) : (s.setAddrRel v).cycles = s.cycles := rfl
@[simp] theorem State.setAddrRel_clockCount (s : State) (v) : (s.setAddrRel v).clockCount = s.clockCount := rfl
@[simp] theorem State.setAddrRel_M (s : State) (v) : (s.setAddrRel v).M = s.M := rfl
@[simp] theorem State.setTemp_A (s : State) (v) : (s.setTemp v).A = s.A := rfl
@[simp] theorem State.setTemp_X (s : State) (v) : (s.setTemp v).X = s.X := rfl
@[simp] theorem State.setTemp_Y (s : State) (v) : (s.setTemp v).Y = s.Y := rfl
@[simp] theorem State.setTemp_SP (s : State) (v) : (s.setTemp v).SP = s.SP := rfl
@[simp] theorem State.setTemp_P (s : State) (v) : (s.setTemp v).P = s.P := rfl
@[simp] theorem State.setTemp_PC (s : State) (v) : (s.setTemp v).PC = s.PC := rfl
@[simp] theorem State.setTemp_fetched (s : State) (v) : (s.setTemp v).fetched = s.fetched := rfl
@[simp] theorem State.setTemp_opcode (s : State) (v) : (s.setTemp v).opcode = s.opcode := rfl
@[simp] theorem State.setTemp_addrAbs (s : State) (v) : (s.setTemp v).addrAbs = s.addrAbs := rfl
@[simp] theorem State.setTemp_addrRel (s : State) (v) : (s.setTemp v).addrRel = s.addrRel := rfl
@[simp] theorem State.setTemp_temp (s : State) (v) : (s.setTemp v).temp = v := rfl
@[simp] theorem State.setTemp_cycles (s : State) (v) : (s.setTemp v).cycles = s.cycles := rfl
@[simp] theorem State.setTemp_clockCount (s : State) (v) : (s.setTemp v).clockCount = s.clockCount := rfl
@[simp] theorem State.setTemp_M (s : State) (v) : (s.setTemp v).M = s.M := rfl
@[simp] theorem State.setCycles_A (s : State) (v) : (s.setCycles v).A = s.A := rfl
@[simp] theorem State.setCycles_X (s : State) (v) : (s.setCycles v).X = s.X := rfl
@[simp] theorem State.setCycles_Y (s : State) (v) : (s.setCycles v).Y = s.Y := rfl
@[simp] theorem State.setCycles_SP (s : State) (v) : (s.setCycles v).SP = s.SP := rfl
@[simp] theorem State.setCycles_P (s : State) (v) : (s.setCycles v).P = s.P := rfl
@[simp] theorem State.setCycles_PC (s : State) (v) : (s.setCycles v).PC = s.PC := rfl
@[simp] theorem State.setCycles_fetched (s : State) (v) : (s.setCycles v).fetched = s.fetched := rfl
@[simp] theorem State.setCycles_opcode (s : State) (v) : (s.setCycles v).opcode = s.opcode := rfl
@[simp] theorem State.setCycles_addrAbs (s : State) (v) : (s.setCycles v).addrAbs = s.addrAbs := rfl
@[simp] theorem State.setCycles_addrRel (s : State) (v) : (s.setCycles v).addrRel = s.addrRel := rfl
@[simp] theorem State.setCycles_temp (s : State) (v) : (s.setCycles v).temp = s.temp := rfl
@[simp] theorem State.setCycles_cycles (s : State) (v) : (s.setCycles v).cycles = v := rfl
@[simp] theorem State.setCycles_clockCount (s : State) (v) : (s.setCycles v).clockCount = s.clockCount := rfl
@[simp] theorem State.setCycles_M (s : State) (v) : (s.setCycles v).M = s.M := rfl
@[simp] theorem State.setClockCount_A (s : State) (v) : (s.setClockCount v).A = s.A := rfl
@[simp] theorem State.setClockCount_X (s : State) (v) : (s.setClockCount v).X = s.X := rfl
@[simp] theorem State.setClockCount_Y (s : State) (v) : (s.setClockCount v).Y = s.Y := rfl
@[simp] theorem State.setClockCount_SP (s : State) (v) : (s.setClockCount v).SP = s.SP := rfl
@[simp] theorem State.setClockCount_P (s : State) (v) : (s.setClockCount v).P = s.P := rfl
@[simp] theorem State.setClockCount_PC (s : State) (v) : (s.setClockCount v).PC = s.PC := rfl
@[simp] theorem State.setClockCount_fetched (s : State) (v) : (s.setClockCount v).fetched = s.fetched := rfl
@[simp] theorem State.setClockCount_opcode (s : State) (v) : (s.setClockCount v).opcode = s.opcode := rfl
@[simp] theorem State.setClockCount_addrAbs (s : State) (v) : (s.setClockCount v).addrAbs = s.addrAbs := rfl
@[simp] theorem State.setClockCount_addrRel (s : State) (v) : (s.setClockCount v).addrRel = s.addrRel := rfl
@[simp] theorem State.setClockCount_temp (s : State) (v) : (s.setClockCount v).temp = s.temp := rfl
@[simp] theorem State.setClockCount_cycles (s : State) (v) : (s.setClockCount v).cycles = s.cycles := rfl
@[simp] theorem State.setClockCount_clockCount (s : State) (v) : (s.setClockCount v).clockCount = v := rfl
@[simp] theorem State.setClockCount_M (s : State) (v) : (s.setClockCount v).M = s.M := rfl
@[simp] theorem State.setM_A (s : State) (v) : (s.setM v).A = s.A := rfl
@[simp] theorem State.setM_X (s : State) (v) : (s.setM v).X = s.X := rfl
@[simp] theorem State.setM_Y (s : State) (v) : (s.setM v).Y = s.Y := rfl
@[simp] theorem State.setM_SP (s : State) (v) : (s.setM v).SP = s.SP := rfl
@[simp] theorem State.setM_P (s : State) (v) : (s.setM v).P = s.P := rfl
@[simp] theorem State.setM_PC (s : State) (v) : (s.setM v).PC = s.PC := rfl
@[simp] theorem State.setM_fetched (s : State) (v) : (s.setM v).fetched = s.fetched := rfl
@[simp] theorem State.setM_opcode (s : State) (v) : (s.setM v).opcode = s.opcode := rfl
@[simp] theorem State.setM_addrAbs (s : State) (v) : (s.setM v).addrAbs = s.addrAbs := rfl
@[simp] theorem State.setM_addrRel (s : State) (v) : (s.setM v).addrRel = s.addrRel := rfl
@[simp] theorem State.setM_temp (s : State) (v) : (s.setM v).temp = s.temp := rfl
@[simp] theorem State.setM_cycles (s : State) (v) : (s.setM v).cycles = s.cycles := rfl
@[simp] theorem State.setM_clockCount (s : State) (v) : (s.setM v).clockCount = s.clockCount := rfl
@[simp] theorem State.setM_M (s : State) (v) : (s.setM v).M = v := rfl

/-- Two states with equal fields are equal. -/
theorem State.eq_of_fields {s t : State} (hA : s.A = t.A) (hX : s.X = t.X) (hY : s.Y = t.Y) (hSP : s.SP = t.SP) (hP : s.P = t.P) (hPC : s.PC = t.PC) (hfetched : s.fetched = t.fetched) (hopcode : s.opcode = t.opcode) (haddrAbs : s.addrAbs = t.addrAbs) (haddrRel : s.addrRel = t.addrRel) (htemp : s.temp = t.temp) (hcycles : s.cycles = t.cycles) (hclockCount : s.clockCount = t.clockCount) (hM : s.M = t.M) : s = t := by
  cases s; cases t; simp_all

end Sys2Proof.Machine
end

