-- ==== Sys2Proof/Laws/Flags.lean ====
section
/-! SUPPORT. The flags of `P`: what a flag reads after a flag is written, and that flag writes change `P` alone. -/

namespace Sys2Proof.Machine

@[simp] theorem getFlag_putFlag (p : Byte) (f g : Flag) (b : Bool) :
    getFlag (putFlag p f b) g = if g = f then b else getFlag p g := by
  cases b <;> cases f <;> cases g <;> simp [getFlag, putFlag, Flag.mask, Flag.bit]

/-- Two status bytes with equal flags are equal. -/
theorem status_ext {p q : Byte} (h : ∀ f, getFlag p f = getFlag q f) : p = q := by
  apply BitVec.eq_of_getLsbD_eq
  intro k hk
  have e : ∃ f : Flag, f.bit = k := by
    interval_cases k
    exacts [⟨.C, rfl⟩, ⟨.Z, rfl⟩, ⟨.I, rfl⟩, ⟨.D, rfl⟩, ⟨.B, rfl⟩, ⟨.U, rfl⟩, ⟨.V, rfl⟩, ⟨.N, rfl⟩]
  obtain ⟨f, rfl⟩ := e
  exact h f

@[simp] theorem State.flag_setFlag (s : State) (f g : Flag) (b : Bool) :
    (s.setFlag f b).flag g = if g = f then b else s.flag g := by
  simp [State.flag, State.setFlag]

/-- Writing a flag back with its own value changes nothing. -/
theorem State.setFlag_flag (s : State) (f : Flag) : s.setFlag f (s.flag f) = s := by
  have : putFlag s.P f (s.flag f) = s.P := status_ext fun g => by
    by_cases h : g = f
    · subst h; simp [State.flag]
    · simp [h]
  simp [State.setFlag, this, State.setP]

@[simp] theorem State.setFlag_A (s : State) (f b) : (s.setFlag f b).A = s.A := rfl
@[simp] theorem State.setFlag_X (s : State) (f b) : (s.setFlag f b).X = s.X := rfl
@[simp] theorem State.setFlag_Y (s : State) (f b) : (s.setFlag f b).Y = s.Y := rfl
@[simp] theorem State.setFlag_SP (s : State) (f b) : (s.setFlag f b).SP = s.SP := rfl
@[simp] theorem State.setFlag_PC (s : State) (f b) : (s.setFlag f b).PC = s.PC := rfl
@[simp] theorem State.setFlag_fetched (s : State) (f b) : (s.setFlag f b).fetched = s.fetched := rfl
@[simp] theorem State.setFlag_opcode (s : State) (f b) : (s.setFlag f b).opcode = s.opcode := rfl
@[simp] theorem State.setFlag_addrAbs (s : State) (f b) : (s.setFlag f b).addrAbs = s.addrAbs := rfl
@[simp] theorem State.setFlag_addrRel (s : State) (f b) : (s.setFlag f b).addrRel = s.addrRel := rfl
@[simp] theorem State.setFlag_temp (s : State) (f b) : (s.setFlag f b).temp = s.temp := rfl
@[simp] theorem State.setFlag_cycles (s : State) (f b) : (s.setFlag f b).cycles = s.cycles := rfl
@[simp] theorem State.setFlag_clockCount (s : State) (f b) : (s.setFlag f b).clockCount = s.clockCount := rfl
@[simp] theorem State.setFlag_M (s : State) (f b) : (s.setFlag f b).M = s.M := rfl
@[simp] theorem State.flag_setA (s : State) (v) (f) : (s.setA v).flag f = s.flag f := rfl
@[simp] theorem State.flag_setX (s : State) (v) (f) : (s.setX v).flag f = s.flag f := rfl
@[simp] theorem State.flag_setY (s : State) (v) (f) : (s.setY v).flag f = s.flag f := rfl
@[simp] theorem State.flag_setSP (s : State) (v) (f) : (s.setSP v).flag f = s.flag f := rfl
@[simp] theorem State.flag_setPC (s : State) (v) (f) : (s.setPC v).flag f = s.flag f := rfl
@[simp] theorem State.flag_setFetched (s : State) (v) (f) : (s.setFetched v).flag f = s.flag f := rfl
@[simp] theorem State.flag_setOpcode (s : State) (v) (f) : (s.setOpcode v).flag f = s.flag f := rfl
@[simp] theorem State.flag_setAddrAbs (s : State) (v) (f) : (s.setAddrAbs v).flag f = s.flag f := rfl
@[simp] theorem State.flag_setAddrRel (s : State) (v) (f) : (s.setAddrRel v).flag f = s.flag f := rfl
@[simp] theorem State.flag_setTemp (s : State) (v) (f) : (s.setTemp v).flag f = s.flag f := rfl
@[simp] theorem State.flag_setCycles (s : State) (v) (f) : (s.setCycles v).flag f = s.flag f := rfl
@[simp] theorem State.flag_setClockCount (s : State) (v) (f) : (s.setClockCount v).flag f = s.flag f := rfl
@[simp] theorem State.flag_setM (s : State) (v) (f) : (s.setM v).flag f = s.flag f := rfl
@[simp] theorem State.flag_setP (s : State) (v) (f) : (s.setP v).flag f = getFlag v f := rfl

@[simp] theorem State.flag_setZN (s : State) (v : Byte) (f : Flag) :
    (s.setZN v).flag f = if f = .N then isNegative v else if f = .Z then isZero v else s.flag f := by
  simp [State.setZN]

@[simp] theorem State.setZN_A (s : State) (v) : (s.setZN v).A = s.A := rfl
@[simp] theorem State.setZN_X (s : State) (v) : (s.setZN v).X = s.X := rfl
@[simp] theorem State.setZN_Y (s : State) (v) : (s.setZN v).Y = s.Y := rfl
@[simp] theorem State.setZN_SP (s : State) (v) : (s.setZN v).SP = s.SP := rfl
@[simp] theorem State.setZN_PC (s : State) (v) : (s.setZN v).PC = s.PC := rfl
@[simp] theorem State.setZN_fetched (s : State) (v) : (s.setZN v).fetched = s.fetched := rfl
@[simp] theorem State.setZN_opcode (s : State) (v) : (s.setZN v).opcode = s.opcode := rfl
@[simp] theorem State.setZN_addrAbs (s : State) (v) : (s.setZN v).addrAbs = s.addrAbs := rfl
@[simp] theorem State.setZN_addrRel (s : State) (v) : (s.setZN v).addrRel = s.addrRel := rfl
@[simp] theorem State.setZN_temp (s : State) (v) : (s.setZN v).temp = s.temp := rfl
@[simp] theorem State.setZN_cycles (s : State) (v) : (s.setZN v).cycles = s.cycles := rfl
@[simp] theorem State.setZN_clockCount (s : State) (v) : (s.setZN v).clockCount = s.clockCount := rfl
@[simp] theorem State.setZN_M (s : State) (v) : (s.setZN v).M = s.M := rfl

end Sys2Proof.Machine
end

