-- ==== Sys2Proof/Laws/Memory.lean ====
section
/-! SUPPORT. The laws of the memory list: read after write, and the canonical form. -/

namespace Sys2Proof.Machine

theorem Memory.get_erase (m : Memory) (a b : Nat) :
    (m.erase a).get b = if b = a then unlisted else m.get b := by
  induction m with
  | nil => simp [Memory.erase, Memory.get]
  | cons c m ih =>
    obtain ⟨k, v⟩ := c
    simp only [Memory.erase, List.filter_cons] at ih ⊢
    by_cases hk : k = a
    · subst hk
      by_cases hb : b = k
      · simp_all
      · simp_all [Memory.get, Ne.symm hb]
    · by_cases hb : k = b
      · subst hb; simp [Memory.get, hk]
      · simp [Memory.get, hk, hb, ih]

theorem Memory.get_insertCell (m : Memory) (a b : Nat) (v : Byte) (h : ∀ c ∈ m, c.1 ≠ a) :
    (m.insertCell a v).get b = if b = a then v else m.get b := by
  induction m with
  | nil => simp [Memory.insertCell, Memory.get, eq_comm]
  | cons c m ih =>
    obtain ⟨k, u⟩ := c
    have hk : k ≠ a := h (k, u) (by simp)
    simp only [Memory.insertCell]
    split
    · simp [Memory.get, eq_comm]
    · have hm := ih fun c hc => h c (by simp [hc])
      by_cases hb : k = b
      · subst hb; simp [Memory.get, hk]
      · simp [Memory.get, hb, hm]

theorem Memory.erase_ne (m : Memory) (a : Nat) : ∀ c ∈ m.erase a, c.1 ≠ a := by
  simp [Memory.erase]

/-- Read after `set`, for every list. -/
theorem Memory.get_set (m : Memory) (a b : Nat) (v : Byte) :
    (m.set a v).get b = if b = a then v else m.get b := by
  unfold Memory.set
  split
  · next h => rw [Memory.get_erase, h]
  · rw [Memory.get_insertCell _ _ _ _ (m.erase_ne a), Memory.get_erase]
    split <;> simp_all

theorem Memory.wf_erase {m : Memory} (h : m.wf) (a : Nat) : (m.erase a).wf :=
  ⟨h.1.sublist List.filter_sublist, fun c hc => h.2 c (List.mem_of_mem_filter hc)⟩

theorem Memory.mem_insertCell {m : Memory} {a : Nat} {v : Byte} {c : Host.Cell} :
    c ∈ m.insertCell a v ↔ c = (a, v) ∨ c ∈ m := by
  induction m with
  | nil => simp [Memory.insertCell]
  | cons d m ih =>
    obtain ⟨k, u⟩ := d
    simp only [Memory.insertCell]
    split
    · simp
    · simp only [List.mem_cons, ih]
      tauto

theorem Memory.wf_insertCell {m : Memory} (h : m.wf) {a : Nat} {v : Byte} (ha : a < memorySize)
    (hv : v ≠ unlisted) (hm : ∀ c ∈ m, c.1 ≠ a) : (m.insertCell a v).wf := by
  refine ⟨?_, fun c hc => ?_⟩
  · have hp := h.1
    clear h
    induction m with
    | nil => simp [Memory.insertCell]
    | cons d m ih =>
      obtain ⟨k, u⟩ := d
      rw [List.pairwise_cons] at hp
      have hk : k ≠ a := hm (k, u) (by simp)
      simp only [Memory.insertCell]
      split
      · next hlt =>
        refine List.pairwise_cons.2 ⟨fun c hc => ?_, List.pairwise_cons.2 hp⟩
        rcases List.mem_cons.1 hc with rfl | hc
        · exact hlt
        · exact lt_trans hlt (hp.1 c hc)
      · next hge =>
        refine List.pairwise_cons.2 ⟨fun c hc => ?_, ih (fun c hc => hm c (by simp [hc])) hp.2⟩
        rcases Memory.mem_insertCell.1 hc with rfl | hc
        · show k < a
          omega
        · exact hp.1 c hc
  · rcases Memory.mem_insertCell.1 hc with rfl | hc
    · exact ⟨ha, hv⟩
    · exact h.2 c hc

theorem Memory.wf_set {m : Memory} (h : m.wf) {a : Nat} (ha : a < memorySize) (v : Byte) : (m.set a v).wf := by
  unfold Memory.set
  split
  · exact Memory.wf_erase h a
  · next hv => exact Memory.wf_insertCell (Memory.wf_erase h a) ha hv (m.erase_ne a)

/-- Every memory operation keeps the canonical form. -/
theorem Memory.wf_busWrite {m : Memory} (h : m.wf) (a : Nat) (v : Byte) : (m.busWrite a v).wf := by
  unfold Memory.busWrite
  split
  · next ha => exact Memory.wf_set h ha v
  · exact h

theorem Memory.wf_nil : Memory.wf [] := by simp [Memory.wf]

theorem Memory.busRead_busWrite (m : Memory) (a b : Nat) (v : Byte) (q : Bool) (ha : a < memorySize) :
    (m.busWrite a v).busRead b q = if b % memorySize = a then v else m.busRead b q := by
  simp [Memory.busWrite, Memory.busRead, ha, Memory.get_set]

theorem Memory.get_lt {m : Memory} {a : Nat} (h : ∀ c ∈ m, a < c.1) : m.get a = unlisted := by
  induction m with
  | nil => rfl
  | cons c m ih =>
    obtain ⟨k, v⟩ := c
    have hk : a < k := h (k, v) (by simp)
    rw [Memory.get, if_neg (by omega), ih fun c hc => h c (by simp [hc])]

/-- In canonical form, memories that read alike at every address are equal lists. -/
theorem Laws.memory_ext {m n : Memory} (hm : m.wf) (hn : n.wf) (h : ∀ a, m.get a = n.get a) : m = n := by
  induction m generalizing n with
  | nil =>
    cases n with
    | nil => rfl
    | cons d n =>
      obtain ⟨k, v⟩ := d
      have := h k
      simp only [Memory.get, if_true] at this
      exact absurd this.symm (hn.2 (k, v) (by simp)).2
  | cons c m ih =>
    obtain ⟨j, u⟩ := c
    cases n with
    | nil =>
      have := h j
      simp only [Memory.get, if_true] at this
      exact absurd this (hm.2 (j, u) (by simp)).2
    | cons d n =>
      obtain ⟨k, v⟩ := d
      have pm := List.pairwise_cons.1 hm.1
      have pn := List.pairwise_cons.1 hn.1
      have hmw : Memory.wf m := ⟨pm.2, fun c hc => hm.2 c (by simp [hc])⟩
      have hnw : Memory.wf n := ⟨pn.2, fun c hc => hn.2 c (by simp [hc])⟩
      have mj : Memory.get m j = unlisted := Memory.get_lt pm.1
      have nk : Memory.get n k = unlisted := Memory.get_lt pn.1
      have hjk : j = k := by
        rcases lt_trichotomy j k with hlt | he | hlt
        · have e := h j
          have : Memory.get n j = unlisted := Memory.get_lt fun c hc => lt_trans hlt (pn.1 c hc)
          simp only [Memory.get, if_true, if_neg (show ¬ k = j by omega), this] at e
          exact absurd e (hm.2 (j, u) (by simp)).2
        · exact he
        · have e := h k
          have : Memory.get m k = unlisted := Memory.get_lt fun c hc => lt_trans hlt (pm.1 c hc)
          simp only [Memory.get, if_true, if_neg (show ¬ j = k by omega), this] at e
          exact absurd e.symm (hn.2 (k, v) (by simp)).2
      subst hjk
      have huv : u = v := by simpa [Memory.get] using h j
      subst huv
      have : m = n := ih hmw hnw fun a => by
        by_cases ha : j = a
        · subst ha; rw [mj, nk]
        · simpa [Memory.get, ha] using h a
      rw [this]

end Sys2Proof.Machine
end

