-- ==== Sys2Proof/Laws/Ops.lean ====
section
/-! SUPPORT. What each named operation can do: bus accesses, the stack, the two ends of an instruction, the clock, trap
entry and return. -/

namespace Sys2Proof.Machine

@[simp] theorem State.memRead_memWrite (s : State) (a b : Word) (v : Byte) :
    (s.memWrite a v).memRead b = if b = a then v else s.memRead b := by
  have ha : a.toNat < memorySize := a.isLt
  have hb : b.toNat % memorySize = b.toNat := Nat.mod_eq_of_lt b.isLt
  simp [State.memRead, State.memWrite, Memory.busRead_busWrite _ _ _ _ _ ha, hb, BitVec.toNat_inj]

theorem State.wf_memWrite {s : State} (h : s.M.wf) (a : Word) (v : Byte) : (s.memWrite a v).M.wf :=
  Memory.wf_busWrite h _ v

@[simp] theorem State.memWrite_A (s : State) (a v) : (s.memWrite a v).A = s.A := rfl
@[simp] theorem State.memWrite_X (s : State) (a v) : (s.memWrite a v).X = s.X := rfl
@[simp] theorem State.memWrite_Y (s : State) (a v) : (s.memWrite a v).Y = s.Y := rfl
@[simp] theorem State.memWrite_SP (s : State) (a v) : (s.memWrite a v).SP = s.SP := rfl
@[simp] theorem State.memWrite_P (s : State) (a v) : (s.memWrite a v).P = s.P := rfl
@[simp] theorem State.memWrite_PC (s : State) (a v) : (s.memWrite a v).PC = s.PC := rfl
@[simp] theorem State.memWrite_fetched (s : State) (a v) : (s.memWrite a v).fetched = s.fetched := rfl
@[simp] theorem State.memWrite_opcode (s : State) (a v) : (s.memWrite a v).opcode = s.opcode := rfl
@[simp] theorem State.memWrite_addrAbs (s : State) (a v) : (s.memWrite a v).addrAbs = s.addrAbs := rfl
@[simp] theorem State.memWrite_addrRel (s : State) (a v) : (s.memWrite a v).addrRel = s.addrRel := rfl
@[simp] theorem State.memWrite_temp (s : State) (a v) : (s.memWrite a v).temp = s.temp := rfl
@[simp] theorem State.memWrite_cycles (s : State) (a v) : (s.memWrite a v).cycles = s.cycles := rfl
@[simp] theorem State.memWrite_clockCount (s : State) (a v) : (s.memWrite a v).clockCount = s.clockCount := rfl
@[simp] theorem State.flag_memWrite (s : State) (a v f) : (s.memWrite a v).flag f = s.flag f := rfl

@[simp] theorem State.memRead_setA (s : State) (v) (a) : (s.setA v).memRead a = s.memRead a := rfl
@[simp] theorem State.memRead_setX (s : State) (v) (a) : (s.setX v).memRead a = s.memRead a := rfl
@[simp] theorem State.memRead_setY (s : State) (v) (a) : (s.setY v).memRead a = s.memRead a := rfl
@[simp] theorem State.memRead_setSP (s : State) (v) (a) : (s.setSP v).memRead a = s.memRead a := rfl
@[simp] theorem State.memRead_setP (s : State) (v) (a) : (s.setP v).memRead a = s.memRead a := rfl
@[simp] theorem State.memRead_setPC (s : State) (v) (a) : (s.setPC v).memRead a = s.memRead a := rfl
@[simp] theorem State.memRead_setFetched (s : State) (v) (a) : (s.setFetched v).memRead a = s.memRead a := rfl
@[simp] theorem State.memRead_setOpcode (s : State) (v) (a) : (s.setOpcode v).memRead a = s.memRead a := rfl
@[simp] theorem State.memRead_setAddrAbs (s : State) (v) (a) : (s.setAddrAbs v).memRead a = s.memRead a := rfl
@[simp] theorem State.memRead_setAddrRel (s : State) (v) (a) : (s.setAddrRel v).memRead a = s.memRead a := rfl
@[simp] theorem State.memRead_setTemp (s : State) (v) (a) : (s.setTemp v).memRead a = s.memRead a := rfl
@[simp] theorem State.memRead_setCycles (s : State) (v) (a) : (s.setCycles v).memRead a = s.memRead a := rfl
@[simp] theorem State.memRead_setClockCount (s : State) (v) (a) : (s.setClockCount v).memRead a = s.memRead a := rfl
@[simp] theorem State.memRead_setFlag (s : State) (f b) (a) : (s.setFlag f b).memRead a = s.memRead a := rfl
@[simp] theorem State.memRead_setZN (s : State) (v) (a) : (s.setZN v).memRead a = s.memRead a := rfl
@[simp] theorem State.memRead_setM_self (s : State) (a) : (s.setM s.M).memRead a = s.memRead a := rfl

@[simp] theorem State.push_A (s : State) (b) : (s.push b).A = s.A := rfl
@[simp] theorem State.push_X (s : State) (b) : (s.push b).X = s.X := rfl
@[simp] theorem State.push_Y (s : State) (b) : (s.push b).Y = s.Y := rfl
@[simp] theorem State.push_P (s : State) (b) : (s.push b).P = s.P := rfl
@[simp] theorem State.push_PC (s : State) (b) : (s.push b).PC = s.PC := rfl
@[simp] theorem State.push_fetched (s : State) (b) : (s.push b).fetched = s.fetched := rfl
@[simp] theorem State.push_opcode (s : State) (b) : (s.push b).opcode = s.opcode := rfl
@[simp] theorem State.push_addrAbs (s : State) (b) : (s.push b).addrAbs = s.addrAbs := rfl
@[simp] theorem State.push_addrRel (s : State) (b) : (s.push b).addrRel = s.addrRel := rfl
@[simp] theorem State.push_temp (s : State) (b) : (s.push b).temp = s.temp := rfl
@[simp] theorem State.push_cycles (s : State) (b) : (s.push b).cycles = s.cycles := rfl
@[simp] theorem State.push_clockCount (s : State) (b) : (s.push b).clockCount = s.clockCount := rfl
@[simp] theorem State.push_SP (s : State) (b) : (s.push b).SP = s.SP - 1 := rfl
@[simp] theorem State.flag_push (s : State) (b f) : (s.push b).flag f = s.flag f := rfl
@[simp] theorem State.memRead_push (s : State) (b a) :
    (s.push b).memRead a = if a = stackAddr s.SP then b else s.memRead a := by
  simp [State.push]
theorem State.wf_push {s : State} (h : s.M.wf) (b) : (s.push b).M.wf := State.wf_memWrite h _ b

/-- `Pull` reads the byte above the stack pointer. -/
theorem State.pull_fst (s : State) : s.pull.1 = s.memRead (stackAddr (s.SP + 1)) := rfl

/-- `Pull` changes the stack pointer alone. -/
theorem State.pull_snd (s : State) : s.pull.2 = s.setSP (s.SP + 1) := rfl

theorem State.pullWord_fst (s : State) :
    s.pullWord.1 = word (s.memRead (stackAddr (s.SP + 2))) (s.memRead (stackAddr (s.SP + 1))) := by
  simp [State.pullWord, State.pull, BitVec.add_assoc]

theorem State.pullWord_snd (s : State) : s.pullWord.2 = s.setSP (s.SP + 2) := by
  simp [State.pullWord, State.pull, BitVec.add_assoc, State.setSP]

@[simp] theorem State.pushWord_A (s : State) (w) : (s.pushWord w).A = s.A := rfl
@[simp] theorem State.pushWord_X (s : State) (w) : (s.pushWord w).X = s.X := rfl
@[simp] theorem State.pushWord_Y (s : State) (w) : (s.pushWord w).Y = s.Y := rfl
@[simp] theorem State.pushWord_P (s : State) (w) : (s.pushWord w).P = s.P := rfl
@[simp] theorem State.pushWord_PC (s : State) (w) : (s.pushWord w).PC = s.PC := rfl
@[simp] theorem State.pushWord_fetched (s : State) (w) : (s.pushWord w).fetched = s.fetched := rfl
@[simp] theorem State.pushWord_opcode (s : State) (w) : (s.pushWord w).opcode = s.opcode := rfl
@[simp] theorem State.pushWord_addrAbs (s : State) (w) : (s.pushWord w).addrAbs = s.addrAbs := rfl
@[simp] theorem State.pushWord_addrRel (s : State) (w) : (s.pushWord w).addrRel = s.addrRel := rfl
@[simp] theorem State.pushWord_temp (s : State) (w) : (s.pushWord w).temp = s.temp := rfl
@[simp] theorem State.pushWord_cycles (s : State) (w) : (s.pushWord w).cycles = s.cycles := rfl
@[simp] theorem State.pushWord_clockCount (s : State) (w) : (s.pushWord w).clockCount = s.clockCount := rfl
@[simp] theorem State.flag_pushWord (s : State) (w f) : (s.pushWord w).flag f = s.flag f := rfl
@[simp] theorem State.pushWord_SP (s : State) (w) : (s.pushWord w).SP = s.SP - 2 := by
  show s.SP - 1 - 1 = s.SP - 2
  bv_omega
theorem State.memRead_pushWord (s : State) (w a) :
    (s.pushWord w).memRead a = if a = stackAddr (s.SP - 1) then lo w
      else if a = stackAddr s.SP then hi w else s.memRead a := by
  simp [State.pushWord]
theorem State.wf_pushWord {s : State} (h : s.M.wf) (w) : (s.pushWord w).M.wf := State.wf_push (State.wf_push h _) _

@[simp] theorem State.beginInstr_A (s : State) (c opc) : (s.beginInstr c opc).A = s.A := rfl
@[simp] theorem State.beginInstr_X (s : State) (c opc) : (s.beginInstr c opc).X = s.X := rfl
@[simp] theorem State.beginInstr_Y (s : State) (c opc) : (s.beginInstr c opc).Y = s.Y := rfl
@[simp] theorem State.beginInstr_SP (s : State) (c opc) : (s.beginInstr c opc).SP = s.SP := rfl
@[simp] theorem State.beginInstr_fetched (s : State) (c opc) : (s.beginInstr c opc).fetched = s.fetched := rfl
@[simp] theorem State.beginInstr_addrAbs (s : State) (c opc) : (s.beginInstr c opc).addrAbs = s.addrAbs := rfl
@[simp] theorem State.beginInstr_addrRel (s : State) (c opc) : (s.beginInstr c opc).addrRel = s.addrRel := rfl
@[simp] theorem State.beginInstr_temp (s : State) (c opc) : (s.beginInstr c opc).temp = s.temp := rfl
@[simp] theorem State.beginInstr_clockCount (s : State) (c opc) : (s.beginInstr c opc).clockCount = s.clockCount := rfl
@[simp] theorem State.beginInstr_M (s : State) (c opc) : (s.beginInstr c opc).M = s.M := rfl
@[simp] theorem State.beginInstr_opcode (s : State) (c opc) : (s.beginInstr c opc).opcode = opc := rfl
@[simp] theorem State.beginInstr_PC (s : State) (c opc) : (s.beginInstr c opc).PC = s.PC + 1 := rfl
@[simp] theorem State.beginInstr_cycles (s : State) (c opc) : (s.beginInstr c opc).cycles = c.baseCycles opc := rfl
@[simp] theorem State.memRead_beginInstr (s : State) (c opc a) : (s.beginInstr c opc).memRead a = s.memRead a := rfl
@[simp] theorem State.flag_beginInstr (s : State) (c opc f) :
    (s.beginInstr c opc).flag f = if f = .U then true else s.flag f := by
  simp [State.beginInstr]

@[simp] theorem State.endInstr_A (s : State) (e) : (s.endInstr e).A = s.A := rfl
@[simp] theorem State.endInstr_X (s : State) (e) : (s.endInstr e).X = s.X := rfl
@[simp] theorem State.endInstr_Y (s : State) (e) : (s.endInstr e).Y = s.Y := rfl
@[simp] theorem State.endInstr_SP (s : State) (e) : (s.endInstr e).SP = s.SP := rfl
@[simp] theorem State.endInstr_PC (s : State) (e) : (s.endInstr e).PC = s.PC := rfl
@[simp] theorem State.endInstr_fetched (s : State) (e) : (s.endInstr e).fetched = s.fetched := rfl
@[simp] theorem State.endInstr_opcode (s : State) (e) : (s.endInstr e).opcode = s.opcode := rfl
@[simp] theorem State.endInstr_addrAbs (s : State) (e) : (s.endInstr e).addrAbs = s.addrAbs := rfl
@[simp] theorem State.endInstr_addrRel (s : State) (e) : (s.endInstr e).addrRel = s.addrRel := rfl
@[simp] theorem State.endInstr_temp (s : State) (e) : (s.endInstr e).temp = s.temp := rfl
@[simp] theorem State.endInstr_clockCount (s : State) (e) : (s.endInstr e).clockCount = s.clockCount := rfl
@[simp] theorem State.endInstr_M (s : State) (e) : (s.endInstr e).M = s.M := rfl
@[simp] theorem State.endInstr_cycles (s : State) (e) : (s.endInstr e).cycles = s.cycles + e.toNat := rfl
@[simp] theorem State.memRead_endInstr (s : State) (e a) : (s.endInstr e).memRead a = s.memRead a := rfl
@[simp] theorem State.flag_endInstr (s : State) (e f) :
    (s.endInstr e).flag f = if f = .U then true else s.flag f := by
  simp [State.endInstr]

@[simp] theorem State.clockTick_A (s : State) : (s.clockTick).A = s.A := rfl
@[simp] theorem State.clockTick_X (s : State) : (s.clockTick).X = s.X := rfl
@[simp] theorem State.clockTick_Y (s : State) : (s.clockTick).Y = s.Y := rfl
@[simp] theorem State.clockTick_SP (s : State) : (s.clockTick).SP = s.SP := rfl
@[simp] theorem State.clockTick_P (s : State) : (s.clockTick).P = s.P := rfl
@[simp] theorem State.clockTick_PC (s : State) : (s.clockTick).PC = s.PC := rfl
@[simp] theorem State.clockTick_fetched (s : State) : (s.clockTick).fetched = s.fetched := rfl
@[simp] theorem State.clockTick_opcode (s : State) : (s.clockTick).opcode = s.opcode := rfl
@[simp] theorem State.clockTick_addrAbs (s : State) : (s.clockTick).addrAbs = s.addrAbs := rfl
@[simp] theorem State.clockTick_addrRel (s : State) : (s.clockTick).addrRel = s.addrRel := rfl
@[simp] theorem State.clockTick_temp (s : State) : (s.clockTick).temp = s.temp := rfl
@[simp] theorem State.clockTick_M (s : State) : (s.clockTick).M = s.M := rfl
@[simp] theorem State.clockTick_cycles (s : State) : s.clockTick.cycles = s.cycles - 1 := rfl
@[simp] theorem State.clockTick_clockCount (s : State) : s.clockTick.clockCount = s.clockCount + 1 := rfl
@[simp] theorem State.flag_clockTick (s : State) (f) : s.clockTick.flag f = s.flag f := rfl
@[simp] theorem State.memRead_clockTick (s : State) (a) : s.clockTick.memRead a = s.memRead a := rfl

@[simp] theorem State.enterTrap_A (s : State) (b v) : (s.enterTrap b v).A = s.A := by simp [State.enterTrap]
@[simp] theorem State.enterTrap_X (s : State) (b v) : (s.enterTrap b v).X = s.X := by simp [State.enterTrap]
@[simp] theorem State.enterTrap_Y (s : State) (b v) : (s.enterTrap b v).Y = s.Y := by simp [State.enterTrap]
@[simp] theorem State.enterTrap_fetched (s : State) (b v) : (s.enterTrap b v).fetched = s.fetched := by simp [State.enterTrap]
@[simp] theorem State.enterTrap_opcode (s : State) (b v) : (s.enterTrap b v).opcode = s.opcode := by simp [State.enterTrap]
@[simp] theorem State.enterTrap_addrAbs (s : State) (b v) : (s.enterTrap b v).addrAbs = s.addrAbs := by simp [State.enterTrap]
@[simp] theorem State.enterTrap_addrRel (s : State) (b v) : (s.enterTrap b v).addrRel = s.addrRel := by simp [State.enterTrap]
@[simp] theorem State.enterTrap_temp (s : State) (b v) : (s.enterTrap b v).temp = s.temp := by simp [State.enterTrap]
@[simp] theorem State.enterTrap_cycles (s : State) (b v) : (s.enterTrap b v).cycles = s.cycles := by simp [State.enterTrap]
@[simp] theorem State.enterTrap_clockCount (s : State) (b v) : (s.enterTrap b v).clockCount = s.clockCount := by simp [State.enterTrap]
@[simp] theorem State.enterTrap_SP (s : State) (b v) : (s.enterTrap b v).SP = s.SP - 3 := by
  simp [State.enterTrap]
  bv_omega
@[simp] theorem State.flag_enterTrap (s : State) (b v f) :
    (s.enterTrap b v).flag f = if f = .B then false else if f = .U then true else if f = .I then true else s.flag f := by
  simp [State.enterTrap]
  cases f <;> simp
theorem State.wf_enterTrap {s : State} (h : s.M.wf) (b v) : (s.enterTrap b v).M.wf := by
  simp only [State.enterTrap, State.setPC_M, State.setFlag_M]
  exact State.wf_push (by simpa using State.wf_pushWord h s.PC) _

/-- Trap return changes `SP`, `P` and `PC` alone. -/
theorem State.returnFromTrap_eq (s : State) :
    s.returnFromTrap =
      ((s.setSP (s.SP + 3)).setP (putFlag (putFlag (s.memRead (stackAddr (s.SP + 1))) .B false) .U false)).setPC
        (word (s.memRead (stackAddr (s.SP + 3))) (s.memRead (stackAddr (s.SP + 2)))) := by
  simp [State.returnFromTrap, State.pullWord_fst, State.pullWord_snd, State.pull_fst, State.pull_snd, State.setFlag,
    BitVec.add_assoc, State.setSP, State.setP, State.setPC]
  rfl


end Sys2Proof.Machine
end

