-- ==== Sys2Proof/Laws/Operands.lean ====
section
/-! SUPPORT. What an addressing mode and the operand fetch leave in each field. -/

namespace Sys2Proof.Machine

@[simp] theorem resolve_A (m : Mode) (s : State) : (resolve m s).1.A = s.A := by cases m <;> rfl
@[simp] theorem resolve_X (m : Mode) (s : State) : (resolve m s).1.X = s.X := by cases m <;> rfl
@[simp] theorem resolve_Y (m : Mode) (s : State) : (resolve m s).1.Y = s.Y := by cases m <;> rfl
@[simp] theorem resolve_SP (m : Mode) (s : State) : (resolve m s).1.SP = s.SP := by cases m <;> rfl
@[simp] theorem resolve_P (m : Mode) (s : State) : (resolve m s).1.P = s.P := by cases m <;> rfl
@[simp] theorem resolve_opcode (m : Mode) (s : State) : (resolve m s).1.opcode = s.opcode := by cases m <;> rfl
@[simp] theorem resolve_temp (m : Mode) (s : State) : (resolve m s).1.temp = s.temp := by cases m <;> rfl
@[simp] theorem resolve_cycles (m : Mode) (s : State) : (resolve m s).1.cycles = s.cycles := by cases m <;> rfl
@[simp] theorem resolve_clockCount (m : Mode) (s : State) : (resolve m s).1.clockCount = s.clockCount := by cases m <;> rfl
@[simp] theorem resolve_M (m : Mode) (s : State) : (resolve m s).1.M = s.M := by cases m <;> rfl
@[simp] theorem flag_resolve (m : Mode) (s : State) (f) : (resolve m s).1.flag f = s.flag f := by cases m <;> rfl
@[simp] theorem memRead_resolve (m : Mode) (s : State) (a) : (resolve m s).1.memRead a = s.memRead a := by
  cases m <;> rfl

@[simp] theorem resolve_PC (m : Mode) (s : State) :
    (resolve m s).1.PC = s.PC + BitVec.ofNat 16 m.kind.operandBytes := by
  cases m <;> first | rfl | simp [resolve, Mode.kind, ModeKind.operandBytes]

@[simp] theorem resolve_addrAbs (m : Mode) (s : State) : (resolve m s).1.addrAbs = effAddr m s := by
  cases m <;> rfl

@[simp] theorem resolve_signal (m : Mode) (s : State) : (resolve m s).2 = pageCross m s := by cases m <;> rfl

theorem resolve_fetched (m : Mode) (s : State) :
    (resolve m s).1.fetched = if m = .imp then s.A else s.fetched := by cases m <;> simp [resolve, State.skipOperand]

/-- The page-cross signal does not look at `PC` or the fields the start of an instruction writes. -/
@[simp] theorem pageCross_beginInstr (m : Mode) (s : State) (c opc) :
    pageCross m (s.beginInstr c opc) = pageCross m s := by cases m <;> rfl

/-- Nor does the effective address, but in IMM. -/
theorem effAddr_beginInstr (m : Mode) (s : State) (c opc) (h : m.kind ≠ .IMM) :
    effAddr m (s.beginInstr c opc) = effAddr m s := by
  cases m <;> first | rfl | exact absurd rfl h

@[simp] theorem fetch_A (m : Mode) (s : State) : (fetch m s).A = s.A := by cases m <;> rfl
@[simp] theorem fetch_X (m : Mode) (s : State) : (fetch m s).X = s.X := by cases m <;> rfl
@[simp] theorem fetch_Y (m : Mode) (s : State) : (fetch m s).Y = s.Y := by cases m <;> rfl
@[simp] theorem fetch_SP (m : Mode) (s : State) : (fetch m s).SP = s.SP := by cases m <;> rfl
@[simp] theorem fetch_P (m : Mode) (s : State) : (fetch m s).P = s.P := by cases m <;> rfl
@[simp] theorem fetch_PC (m : Mode) (s : State) : (fetch m s).PC = s.PC := by cases m <;> rfl
@[simp] theorem fetch_opcode (m : Mode) (s : State) : (fetch m s).opcode = s.opcode := by cases m <;> rfl
@[simp] theorem fetch_addrAbs (m : Mode) (s : State) : (fetch m s).addrAbs = s.addrAbs := by cases m <;> rfl
@[simp] theorem fetch_addrRel (m : Mode) (s : State) : (fetch m s).addrRel = s.addrRel := by cases m <;> rfl
@[simp] theorem fetch_temp (m : Mode) (s : State) : (fetch m s).temp = s.temp := by cases m <;> rfl
@[simp] theorem fetch_cycles (m : Mode) (s : State) : (fetch m s).cycles = s.cycles := by cases m <;> rfl
@[simp] theorem fetch_clockCount (m : Mode) (s : State) : (fetch m s).clockCount = s.clockCount := by cases m <;> rfl
@[simp] theorem fetch_M (m : Mode) (s : State) : (fetch m s).M = s.M := by cases m <;> rfl
@[simp] theorem flag_fetch (m : Mode) (s : State) (f) : (fetch m s).flag f = s.flag f := by cases m <;> rfl
@[simp] theorem memRead_fetch (m : Mode) (s : State) (a) : (fetch m s).memRead a = s.memRead a := by cases m <;> rfl

/-- The status byte is the same when every flag is. -/
theorem State.P_ext {s t : State} (h : ∀ f, s.flag f = t.flag f) : s.P = t.P := status_ext h

@[simp] theorem writeBack_X (m : Mode) (v) (s : State) : (writeBack m v s).X = s.X := by cases m <;> rfl
@[simp] theorem writeBack_Y (m : Mode) (v) (s : State) : (writeBack m v s).Y = s.Y := by cases m <;> rfl
@[simp] theorem writeBack_SP (m : Mode) (v) (s : State) : (writeBack m v s).SP = s.SP := by cases m <;> rfl
@[simp] theorem writeBack_P (m : Mode) (v) (s : State) : (writeBack m v s).P = s.P := by cases m <;> rfl
@[simp] theorem writeBack_PC (m : Mode) (v) (s : State) : (writeBack m v s).PC = s.PC := by cases m <;> rfl
@[simp] theorem writeBack_fetched (m : Mode) (v) (s : State) : (writeBack m v s).fetched = s.fetched := by cases m <;> rfl
@[simp] theorem writeBack_opcode (m : Mode) (v) (s : State) : (writeBack m v s).opcode = s.opcode := by cases m <;> rfl
@[simp] theorem writeBack_addrAbs (m : Mode) (v) (s : State) : (writeBack m v s).addrAbs = s.addrAbs := by cases m <;> rfl
@[simp] theorem writeBack_addrRel (m : Mode) (v) (s : State) : (writeBack m v s).addrRel = s.addrRel := by cases m <;> rfl
@[simp] theorem writeBack_temp (m : Mode) (v) (s : State) : (writeBack m v s).temp = s.temp := by cases m <;> rfl
@[simp] theorem writeBack_cycles (m : Mode) (v) (s : State) : (writeBack m v s).cycles = s.cycles := by cases m <;> rfl
@[simp] theorem writeBack_clockCount (m : Mode) (v) (s : State) : (writeBack m v s).clockCount = s.clockCount := by cases m <;> rfl
@[simp] theorem flag_writeBack (m : Mode) (v) (s : State) (f) : (writeBack m v s).flag f = s.flag f := by
  cases m <;> rfl

theorem writeBack_A (m : Mode) (v) (s : State) : (writeBack m v s).A = if m = .imp then v else s.A := by
  cases m <;> simp [writeBack]

theorem memRead_writeBack (m : Mode) (v) (s : State) (a) :
    (writeBack m v s).memRead a = if m ≠ .imp ∧ a = s.addrAbs then v else s.memRead a := by
  cases m <;> simp [writeBack]

theorem wf_writeBack {s : State} (h : s.M.wf) (m : Mode) (v) : (writeBack m v s).M.wf := by
  cases m <;> first | exact h | exact State.wf_memWrite h _ _

end Sys2Proof.Machine
end

