-- ==== Sys2Proof/Laws/Exec.lean ====
section
/-! SUPPORT. Every meaning is one instruction frame around its operation; provers cite `exec_eq` and then split on the
57 operations instead of the 256 rows. -/

namespace Sys2Proof.Machine

/-- The default configuration gives each undocumented slot the operation of its row. -/
theorem opUnder_cfg (i : Instr) : i.opUnder cfg = i.op := by
  cases i <;> rfl

/-- Each of the 256 arms runs the operation and the mode of its row under its own opcode byte. -/
theorem exec_eq (i : Instr) (s : State) : exec i s = runInstr cfg i.opcode i.mode (opRun cfg i.op) s := by
  cases i <;> rfl

theorem exec_eq_execIn (i : Instr) (s : State) : exec i s = execIn cfg i s := by
  rw [exec_eq, execIn, opUnder_cfg]

theorem step_eq_stepIn (s : State) : step s = stepIn cfg s := by
  simp only [step, stepIn, clockEvent, exec_eq_execIn]

theorem handle_eq_handleIn (e : Event) (s : State) : handle e s = handleIn cfg e s := by
  cases e <;> simp only [handle, handleIn, handleWith, step_eq_stepIn]

/-- Under any configuration an instruction is documented and does what its row says, or one of the two no-operations. -/
theorem opUnder_cases (c : Config) (i : Instr) :
    (i.documented = true ∧ i.opUnder c = i.op) ∨
      (i.documented = false ∧ i.mode = .imp ∧ (i.op = .NOP ∨ i.op = .XXX) ∧ (i.opUnder c = .NOP ∨ i.opUnder c = .XXX)) := by
  by_cases h : i.documented = true
  · exact .inl ⟨h, if_pos h⟩
  · refine .inr ⟨by simpa using h, ?_, ?_, ?_⟩
    · revert h; cases i <;> first | (intro; rfl) | (intro h; exact absurd rfl h)
    · revert h; cases i <;> first | (intro h; exact absurd rfl h) | (intro; decide)
    · rw [Instr.opUnder, if_neg h]; cases c.undocOp i.opcode <;> decide

/-- The state an instruction leaves under a configuration in which its operation is `o`. -/
def afterOp (c : Config) (o : Op) (i : Instr) (s : State) : State :=
  ((opRun c o i.mode (resolve i.mode (s.beginInstr c i.opcode)).1).1).endInstr
    (pageCross i.mode s && (opRun c o i.mode (resolve i.mode (s.beginInstr c i.opcode)).1).2)

/-- The state an instruction leaves. -/
def after (i : Instr) (s : State) : State := afterOp cfg i.op i s

theorem execIn_next (c : Config) (i : Instr) (s : State) : execIn c i s = .next (afterOp c (i.opUnder c) i s) := by
  simp [execIn, runInstr, afterOp]

/-- No instruction faults or is refused. -/
theorem exec_next (i : Instr) (s : State) : exec i s = .next (after i s) := by
  rw [exec_eq]
  simp [runInstr, after, afterOp]

theorem exec_next_iff {i : Instr} {s t : State} : exec i s = .next t ↔ t = after i s := by
  rw [exec_next]
  constructor
  · intro h; injection h with h; exact h.symm
  · rintro rfl; rfl

theorem step_idle {s : State} (h : s.cycles = 0) : step s = .next (after s.fetchInstr s).clockTick := by
  simp [step, clockEvent, State.complete, h, exec_next]

theorem step_busy {s : State} (h : s.cycles ≠ 0) : step s = .next s.clockTick := by
  simp [step, clockEvent, State.complete, h]

@[simp] theorem handleAll_nil (s : State) : handleAll [] s = .next s := rfl

theorem handleAll_cons {e : Event} {s t : State} (h : handle e s = .next t) (es : List Event) :
    handleAll (e :: es) s = handleAll es t := by
  simp only [handleAll, runEvents, h]

end Sys2Proof.Machine
end

