-- ==== Sys2Proof/Laws/Frames.lean ====
section
/-! SUPPORT. What every operation does to the fields that no operation names: one lemma a field, over the 57 operations,
and the terms of Safety.lean seen from the model. -/

namespace Sys2Proof.Machine

/-- The operand an operation works on is `operandOf` of the state the instruction starts in. -/
theorem fetched_operand (m : Mode) (s : State) (c : Config) (opc : Byte) :
    (fetch m (resolve m (s.beginInstr c opc)).1).fetched = operandOf m s := by
  cases m <;> rfl

/-- Where `PC` stands when an operation runs. -/
theorem nextPC_eq (i : Instr) (s : State) :
    s.PC + 1 + BitVec.ofNat 16 i.mode.kind.operandBytes = nextPC i s := by
  simp [nextPC, Instr.length, BitVec.add_assoc, BitVec.ofNat_add]

theorem isZero_eq (v : Byte) : isZero v = decide (v = 0) := rfl

theorem State.toNat_carryWord (s : State) : s.carryWord.toNat = (s.flag .C).toNat := by
  cases h : s.flag .C <;> simp [State.carryWord, h]

/-- The mode of an instruction is one its operation has. -/
theorem op_allows_mode (i : Instr) : i.op.allows i.mode.kind = true := by cases i <;> rfl

theorem mode_ne_imm {i : Instr} (o : Op) (h : i.op = o) (ho : o.allows .IMM = false) : i.mode.kind ≠ .IMM := by
  intro hk
  have := op_allows_mode i
  rw [hk, h, ho] at this
  cases this

theorem mode_eq_imp {i : Instr} (o : Op) (h : i.op = o) (ho : o.modes = [.IMP]) : i.mode = .imp := by
  have := op_allows_mode i
  rw [h, Op.allows, ho] at this
  cases hm : i.mode <;> simp [hm, Mode.kind] at this ⊢

/-- The branch operations: the ones that write `cycles` and `addr_abs` themselves. -/
def isBranch (o : Op) : Bool := [Op.BCC, .BCS, .BEQ, .BNE, .BMI, .BPL, .BVC, .BVS].contains o

theorem opRun_clockCount (c : Config) (o : Op) (m : Mode) (u : State) : (opRun c o m u).1.clockCount = u.clockCount := by
  cases o <;> simp [opRun, opLDA, opLDX, opLDY, opSTA, opSTX, opSTY, opTAX, opTAY, opTXA, opTYA, opTSX, opTXS, opAND, opORA, opEOR, opBIT,
    opADC, opSBC, opCMP, opCPX, opCPY, opASL, opLSR, opROL, opROR, opINC, opDEC, opINX, opINY, opDEX, opDEY, opBCC, opBCS, opBEQ,
    opBNE, opBMI, opBPL, opBVC, opBVS, opJMP, opJSR, opRTS, opPHA, opPHP, opPLA, opPLP, opCLC, opCLD, opCLI, opCLV, opSEC, opSED,
    opSEI, opBRK, opRTI, opNOP, opXXX, State.addWithCarry, State.compareWith, State.pull_fst, State.pull_snd,
    State.pullWord_fst, State.pullWord_snd, State.returnFromTrap_eq, State.branch] <;> split <;> simp

theorem opRun_opcode (c : Config) (o : Op) (m : Mode) (u : State) : (opRun c o m u).1.opcode = u.opcode := by
  cases o <;> simp [opRun, opLDA, opLDX, opLDY, opSTA, opSTX, opSTY, opTAX, opTAY, opTXA, opTYA, opTSX, opTXS, opAND, opORA, opEOR, opBIT,
    opADC, opSBC, opCMP, opCPX, opCPY, opASL, opLSR, opROL, opROR, opINC, opDEC, opINX, opINY, opDEX, opDEY, opBCC, opBCS, opBEQ,
    opBNE, opBMI, opBPL, opBVC, opBVS, opJMP, opJSR, opRTS, opPHA, opPHP, opPLA, opPLP, opCLC, opCLD, opCLI, opCLV, opSEC, opSED,
    opSEI, opBRK, opRTI, opNOP, opXXX, State.addWithCarry, State.compareWith, State.pull_fst, State.pull_snd,
    State.pullWord_fst, State.pullWord_snd, State.returnFromTrap_eq, State.branch] <;> split <;> simp

theorem opRun_addrRel (c : Config) (o : Op) (m : Mode) (u : State) : (opRun c o m u).1.addrRel = u.addrRel := by
  cases o <;> simp [opRun, opLDA, opLDX, opLDY, opSTA, opSTX, opSTY, opTAX, opTAY, opTXA, opTYA, opTSX, opTXS, opAND, opORA, opEOR, opBIT,
    opADC, opSBC, opCMP, opCPX, opCPY, opASL, opLSR, opROL, opROR, opINC, opDEC, opINX, opINY, opDEX, opDEY, opBCC, opBCS, opBEQ,
    opBNE, opBMI, opBPL, opBVC, opBVS, opJMP, opJSR, opRTS, opPHA, opPHP, opPLA, opPLP, opCLC, opCLD, opCLI, opCLV, opSEC, opSED,
    opSEI, opBRK, opRTI, opNOP, opXXX, State.addWithCarry, State.compareWith, State.pull_fst, State.pull_snd,
    State.pullWord_fst, State.pullWord_snd, State.returnFromTrap_eq, State.branch] <;> split <;> simp

theorem opRun_cycles (c : Config) (o : Op) (m : Mode) (u : State) (h : isBranch o = false) : (opRun c o m u).1.cycles = u.cycles := by
  cases o <;> first | (exact absurd h (by decide)) | simp [opRun, opLDA, opLDX, opLDY, opSTA, opSTX, opSTY, opTAX, opTAY, opTXA, opTYA, opTSX, opTXS, opAND, opORA, opEOR, opBIT,
    opADC, opSBC, opCMP, opCPX, opCPY, opASL, opLSR, opROL, opROR, opINC, opDEC, opINX, opINY, opDEX, opDEY,
    opJMP, opJSR, opRTS, opPHA, opPHP, opPLA, opPLP, opCLC, opCLD, opCLI, opCLV, opSEC, opSED,
    opSEI, opBRK, opRTI, opNOP, opXXX, State.addWithCarry, State.compareWith, State.pull_fst, State.pull_snd,
    State.pullWord_fst, State.pullWord_snd, State.returnFromTrap_eq]

theorem opRun_addrAbs (c : Config) (o : Op) (m : Mode) (u : State) (h : isBranch o = false) : (opRun c o m u).1.addrAbs = u.addrAbs := by
  cases o <;> first | (exact absurd h (by decide)) | simp [opRun, opLDA, opLDX, opLDY, opSTA, opSTX, opSTY, opTAX, opTAY, opTXA, opTYA, opTSX, opTXS, opAND, opORA, opEOR, opBIT,
    opADC, opSBC, opCMP, opCPX, opCPY, opASL, opLSR, opROL, opROR, opINC, opDEC, opINX, opINY, opDEX, opDEY,
    opJMP, opJSR, opRTS, opPHA, opPHP, opPLA, opPLP, opCLC, opCLD, opCLI, opCLV, opSEC, opSED,
    opSEI, opBRK, opRTI, opNOP, opXXX, State.addWithCarry, State.compareWith, State.pull_fst, State.pull_snd,
    State.pullWord_fst, State.pullWord_snd, State.returnFromTrap_eq]

/-- Which operations return the extra-cycle signal (41_load_store_transfer.md, 42_logic_arith.md, R243). -/
theorem opRun_signal (c : Config) (o : Op) (m : Mode) (u : State) :
    (opRun c o m u).2 = (decide (o ∈ [.ADC, .SBC, .AND, .ORA, .EOR, .CMP, .LDA, .LDX, .LDY]) ||
      (o == .NOP && c.nopExtra.contains u.opcode)) := by
  cases o <;> simp [opRun, opLDA, opLDX, opLDY, opSTA, opSTX, opSTY, opTAX, opTAY, opTXA, opTYA, opTSX, opTXS, opAND, opORA, opEOR, opBIT,
    opADC, opSBC, opCMP, opCPX, opCPY, opASL, opLSR, opROL, opROR, opINC, opDEC, opINX, opINY, opDEX, opDEY, opBCC, opBCS, opBEQ,
    opBNE, opBMI, opBPL, opBVC, opBVS, opJMP, opJSR, opRTS, opPHA, opPHP, opPLA, opPLP, opCLC, opCLD, opCLI, opCLV, opSEC, opSED,
    opSEI, opBRK, opRTI, opNOP, opXXX, State.addWithCarry, State.compareWith, State.pull_fst, State.pull_snd,
    State.pullWord_fst, State.pullWord_snd, State.returnFromTrap_eq, State.branch]

/-- What a branch does to `cycles`. -/
theorem State.branch_cycles (s : State) (c : Bool) :
    s.cycles ≤ (s.branch c).cycles ∧ (s.branch c).cycles ≤ s.cycles + 2 := by
  unfold State.branch
  cases c
  · simp
  · simp only [if_true, State.setPC_cycles, State.setAddrAbs_cycles, State.setCycles_cycles]
    have : (hi (s.PC + s.addrRel) != hi s.PC).toNat ≤ 1 := Bool.toNat_le _
    omega

/-- Trap entry writes the three stack bytes below the stack pointer and no other. -/
theorem State.memRead_enterTrap (s : State) (b : Bool) (v a : Word) (h0 : a ≠ stackAddr s.SP)
    (h1 : a ≠ stackAddr (s.SP - 1)) (h2 : a ≠ stackAddr (s.SP - 2)) :
    (s.enterTrap b v).memRead a = s.memRead a := by
  simp at h1 h2
  simp [State.enterTrap, State.memRead_pushWord, h0, h1, h2]

/-- The three bytes of a trap frame lie at three addresses, none of them a vector. -/
theorem stackAddr_distinct (b : Byte) :
    stackAddr b ≠ stackAddr (b - 1) ∧ stackAddr b ≠ stackAddr (b - 2) ∧ stackAddr (b - 1) ≠ stackAddr (b - 2) ∧
      (stackAddr b).toNat < 0xFFFA := by
  revert b
  decide

end Sys2Proof.Machine
end

