-- ==== Sys2Proof/Laws/PerInstr.lean ====
section
/-! SUPPORT. One lemma for each constructor of `Instr` that its term is well formed. -/

namespace Sys2Proof.Laws.WellFormed

/-- The operation has the addressing mode in the opcode table (30_encoding.md R96, R97). -/
def Statement (i : Instr) : Prop := i.wellFormed = true

theorem ldaIzx (z : Byte) : Statement (.ldaIzx z) := rfl
theorem ldaZp0 (z : Byte) : Statement (.ldaZp0 z) := rfl
theorem ldaImm (v : Byte) : Statement (.ldaImm v) := rfl
theorem ldaAbs (w : Word) : Statement (.ldaAbs w) := rfl
theorem ldaIzy (z : Byte) : Statement (.ldaIzy z) := rfl
theorem ldaZpx (z : Byte) : Statement (.ldaZpx z) := rfl
theorem ldaAby (w : Word) : Statement (.ldaAby w) := rfl
theorem ldaAbx (w : Word) : Statement (.ldaAbx w) := rfl
theorem ldxImm (v : Byte) : Statement (.ldxImm v) := rfl
theorem ldxZp0 (z : Byte) : Statement (.ldxZp0 z) := rfl
theorem ldxAbs (w : Word) : Statement (.ldxAbs w) := rfl
theorem ldxZpy (z : Byte) : Statement (.ldxZpy z) := rfl
theorem ldxAby (w : Word) : Statement (.ldxAby w) := rfl
theorem ldyImm (v : Byte) : Statement (.ldyImm v) := rfl
theorem ldyZp0 (z : Byte) : Statement (.ldyZp0 z) := rfl
theorem ldyAbs (w : Word) : Statement (.ldyAbs w) := rfl
theorem ldyZpx (z : Byte) : Statement (.ldyZpx z) := rfl
theorem ldyAbx (w : Word) : Statement (.ldyAbx w) := rfl
theorem staIzx (z : Byte) : Statement (.staIzx z) := rfl
theorem staZp0 (z : Byte) : Statement (.staZp0 z) := rfl
theorem staAbs (w : Word) : Statement (.staAbs w) := rfl
theorem staIzy (z : Byte) : Statement (.staIzy z) := rfl
theorem staZpx (z : Byte) : Statement (.staZpx z) := rfl
theorem staAby (w : Word) : Statement (.staAby w) := rfl
theorem staAbx (w : Word) : Statement (.staAbx w) := rfl
theorem stxZp0 (z : Byte) : Statement (.stxZp0 z) := rfl
theorem stxAbs (w : Word) : Statement (.stxAbs w) := rfl
theorem stxZpy (z : Byte) : Statement (.stxZpy z) := rfl
theorem styZp0 (z : Byte) : Statement (.styZp0 z) := rfl
theorem styAbs (w : Word) : Statement (.styAbs w) := rfl
theorem styZpx (z : Byte) : Statement (.styZpx z) := rfl
theorem tax : Statement (.tax) := rfl
theorem tay : Statement (.tay) := rfl
theorem txa : Statement (.txa) := rfl
theorem tya : Statement (.tya) := rfl
theorem tsx : Statement (.tsx) := rfl
theorem txs : Statement (.txs) := rfl
theorem andIzx (z : Byte) : Statement (.andIzx z) := rfl
theorem andZp0 (z : Byte) : Statement (.andZp0 z) := rfl
theorem andImm (v : Byte) : Statement (.andImm v) := rfl
theorem andAbs (w : Word) : Statement (.andAbs w) := rfl
theorem andIzy (z : Byte) : Statement (.andIzy z) := rfl
theorem andZpx (z : Byte) : Statement (.andZpx z) := rfl
theorem andAby (w : Word) : Statement (.andAby w) := rfl
theorem andAbx (w : Word) : Statement (.andAbx w) := rfl
theorem oraIzx (z : Byte) : Statement (.oraIzx z) := rfl
theorem oraZp0 (z : Byte) : Statement (.oraZp0 z) := rfl
theorem oraImm (v : Byte) : Statement (.oraImm v) := rfl
theorem oraAbs (w : Word) : Statement (.oraAbs w) := rfl
theorem oraIzy (z : Byte) : Statement (.oraIzy z) := rfl
theorem oraZpx (z : Byte) : Statement (.oraZpx z) := rfl
theorem oraAby (w : Word) : Statement (.oraAby w) := rfl
theorem oraAbx (w : Word) : Statement (.oraAbx w) := rfl
theorem eorIzx (z : Byte) : Statement (.eorIzx z) := rfl
theorem eorZp0 (z : Byte) : Statement (.eorZp0 z) := rfl
theorem eorImm (v : Byte) : Statement (.eorImm v) := rfl
theorem eorAbs (w : Word) : Statement (.eorAbs w) := rfl
theorem eorIzy (z : Byte) : Statement (.eorIzy z) := rfl
theorem eorZpx (z : Byte) : Statement (.eorZpx z) := rfl
theorem eorAby (w : Word) : Statement (.eorAby w) := rfl
theorem eorAbx (w : Word) : Statement (.eorAbx w) := rfl
theorem bitZp0 (z : Byte) : Statement (.bitZp0 z) := rfl
theorem bitAbs (w : Word) : Statement (.bitAbs w) := rfl
theorem adcIzx (z : Byte) : Statement (.adcIzx z) := rfl
theorem adcZp0 (z : Byte) : Statement (.adcZp0 z) := rfl
theorem adcImm (v : Byte) : Statement (.adcImm v) := rfl
theorem adcAbs (w : Word) : Statement (.adcAbs w) := rfl
theorem adcIzy (z : Byte) : Statement (.adcIzy z) := rfl
theorem adcZpx (z : Byte) : Statement (.adcZpx z) := rfl
theorem adcAby (w : Word) : Statement (.adcAby w) := rfl
theorem adcAbx (w : Word) : Statement (.adcAbx w) := rfl
theorem sbcIzx (z : Byte) : Statement (.sbcIzx z) := rfl
theorem sbcZp0 (z : Byte) : Statement (.sbcZp0 z) := rfl
theorem sbcImm (v : Byte) : Statement (.sbcImm v) := rfl
theorem sbcAbs (w : Word) : Statement (.sbcAbs w) := rfl
theorem sbcIzy (z : Byte) : Statement (.sbcIzy z) := rfl
theorem sbcZpx (z : Byte) : Statement (.sbcZpx z) := rfl
theorem sbcAby (w : Word) : Statement (.sbcAby w) := rfl
theorem sbcAbx (w : Word) : Statement (.sbcAbx w) := rfl
theorem cmpIzx (z : Byte) : Statement (.cmpIzx z) := rfl
theorem cmpZp0 (z : Byte) : Statement (.cmpZp0 z) := rfl
theorem cmpImm (v : Byte) : Statement (.cmpImm v) := rfl
theorem cmpAbs (w : Word) : Statement (.cmpAbs w) := rfl
theorem cmpIzy (z : Byte) : Statement (.cmpIzy z) := rfl
theorem cmpZpx (z : Byte) : Statement (.cmpZpx z) := rfl
theorem cmpAby (w : Word) : Statement (.cmpAby w) := rfl
theorem cmpAbx (w : Word) : Statement (.cmpAbx w) := rfl
theorem cpxImm (v : Byte) : Statement (.cpxImm v) := rfl
theorem cpxZp0 (z : Byte) : Statement (.cpxZp0 z) := rfl
theorem cpxAbs (w : Word) : Statement (.cpxAbs w) := rfl
theorem cpyImm (v : Byte) : Statement (.cpyImm v) := rfl
theorem cpyZp0 (z : Byte) : Statement (.cpyZp0 z) := rfl
theorem cpyAbs (w : Word) : Statement (.cpyAbs w) := rfl
theorem aslZp0 (z : Byte) : Statement (.aslZp0 z) := rfl
theorem aslImp : Statement (.aslImp) := rfl
theorem aslAbs (w : Word) : Statement (.aslAbs w) := rfl
theorem aslZpx (z : Byte) : Statement (.aslZpx z) := rfl
theorem aslAbx (w : Word) : Statement (.aslAbx w) := rfl
theorem lsrZp0 (z : Byte) : Statement (.lsrZp0 z) := rfl
theorem lsrImp : Statement (.lsrImp) := rfl
theorem lsrAbs (w : Word) : Statement (.lsrAbs w) := rfl
theorem lsrZpx (z : Byte) : Statement (.lsrZpx z) := rfl
theorem lsrAbx (w : Word) : Statement (.lsrAbx w) := rfl
theorem rolZp0 (z : Byte) : Statement (.rolZp0 z) := rfl
theorem rolImp : Statement (.rolImp) := rfl
theorem rolAbs (w : Word) : Statement (.rolAbs w) := rfl
theorem rolZpx (z : Byte) : Statement (.rolZpx z) := rfl
theorem rolAbx (w : Word) : Statement (.rolAbx w) := rfl
theorem rorZp0 (z : Byte) : Statement (.rorZp0 z) := rfl
theorem rorImp : Statement (.rorImp) := rfl
theorem rorAbs (w : Word) : Statement (.rorAbs w) := rfl
theorem rorZpx (z : Byte) : Statement (.rorZpx z) := rfl
theorem rorAbx (w : Word) : Statement (.rorAbx w) := rfl
theorem incZp0 (z : Byte) : Statement (.incZp0 z) := rfl
theorem incAbs (w : Word) : Statement (.incAbs w) := rfl
theorem incZpx (z : Byte) : Statement (.incZpx z) := rfl
theorem incAbx (w : Word) : Statement (.incAbx w) := rfl
theorem decZp0 (z : Byte) : Statement (.decZp0 z) := rfl
theorem decAbs (w : Word) : Statement (.decAbs w) := rfl
theorem decZpx (z : Byte) : Statement (.decZpx z) := rfl
theorem decAbx (w : Word) : Statement (.decAbx w) := rfl
theorem inx : Statement (.inx) := rfl
theorem iny : Statement (.iny) := rfl
theorem dex : Statement (.dex) := rfl
theorem dey : Statement (.dey) := rfl
theorem bcc (d : Byte) : Statement (.bcc d) := rfl
theorem bcs (d : Byte) : Statement (.bcs d) := rfl
theorem beq (d : Byte) : Statement (.beq d) := rfl
theorem bne (d : Byte) : Statement (.bne d) := rfl
theorem bmi (d : Byte) : Statement (.bmi d) := rfl
theorem bpl (d : Byte) : Statement (.bpl d) := rfl
theorem bvc (d : Byte) : Statement (.bvc d) := rfl
theorem bvs (d : Byte) : Statement (.bvs d) := rfl
theorem jmpAbs (w : Word) : Statement (.jmpAbs w) := rfl
theorem jmpInd (w : Word) : Statement (.jmpInd w) := rfl
theorem jsr (w : Word) : Statement (.jsr w) := rfl
theorem rts : Statement (.rts) := rfl
theorem pha : Statement (.pha) := rfl
theorem php : Statement (.php) := rfl
theorem pla : Statement (.pla) := rfl
theorem plp : Statement (.plp) := rfl
theorem clc : Statement (.clc) := rfl
theorem cld : Statement (.cld) := rfl
theorem cli : Statement (.cli) := rfl
theorem clv : Statement (.clv) := rfl
theorem sec : Statement (.sec) := rfl
theorem sed : Statement (.sed) := rfl
theorem sei : Statement (.sei) := rfl
theorem brk : Statement (.brk) := rfl
theorem rti : Statement (.rti) := rfl
theorem nop04 : Statement (.nop04) := rfl
theorem nop0C : Statement (.nop0C) := rfl
theorem nop14 : Statement (.nop14) := rfl
theorem nop1A : Statement (.nop1A) := rfl
theorem nop1C : Statement (.nop1C) := rfl
theorem nop34 : Statement (.nop34) := rfl
theorem nop3A : Statement (.nop3A) := rfl
theorem nop3C : Statement (.nop3C) := rfl
theorem nop44 : Statement (.nop44) := rfl
theorem nop54 : Statement (.nop54) := rfl
theorem nop5A : Statement (.nop5A) := rfl
theorem nop5C : Statement (.nop5C) := rfl
theorem nop64 : Statement (.nop64) := rfl
theorem nop74 : Statement (.nop74) := rfl
theorem nop7A : Statement (.nop7A) := rfl
theorem nop7C : Statement (.nop7C) := rfl
theorem nop80 : Statement (.nop80) := rfl
theorem nop82 : Statement (.nop82) := rfl
theorem nop89 : Statement (.nop89) := rfl
theorem nop9C : Statement (.nop9C) := rfl
theorem nopC2 : Statement (.nopC2) := rfl
theorem nopD4 : Statement (.nopD4) := rfl
theorem nopDA : Statement (.nopDA) := rfl
theorem nopDC : Statement (.nopDC) := rfl
theorem nopE2 : Statement (.nopE2) := rfl
theorem nop : Statement (.nop) := rfl
theorem nopF4 : Statement (.nopF4) := rfl
theorem nopFA : Statement (.nopFA) := rfl
theorem nopFC : Statement (.nopFC) := rfl
theorem xxx02 : Statement (.xxx02) := rfl
theorem xxx03 : Statement (.xxx03) := rfl
theorem xxx07 : Statement (.xxx07) := rfl
theorem xxx0B : Statement (.xxx0B) := rfl
theorem xxx0F : Statement (.xxx0F) := rfl
theorem xxx12 : Statement (.xxx12) := rfl
theorem xxx13 : Statement (.xxx13) := rfl
theorem xxx17 : Statement (.xxx17) := rfl
theorem xxx1B : Statement (.xxx1B) := rfl
theorem xxx1F : Statement (.xxx1F) := rfl
theorem xxx22 : Statement (.xxx22) := rfl
theorem xxx23 : Statement (.xxx23) := rfl
theorem xxx27 : Statement (.xxx27) := rfl
theorem xxx2B : Statement (.xxx2B) := rfl
theorem xxx2F : Statement (.xxx2F) := rfl
theorem xxx32 : Statement (.xxx32) := rfl
theorem xxx33 : Statement (.xxx33) := rfl
theorem xxx37 : Statement (.xxx37) := rfl
theorem xxx3B : Statement (.xxx3B) := rfl
theorem xxx3F : Statement (.xxx3F) := rfl
theorem xxx42 : Statement (.xxx42) := rfl
theorem xxx43 : Statement (.xxx43) := rfl
theorem xxx47 : Statement (.xxx47) := rfl
theorem xxx4B : Statement (.xxx4B) := rfl
theorem xxx4F : Statement (.xxx4F) := rfl
theorem xxx52 : Statement (.xxx52) := rfl
theorem xxx53 : Statement (.xxx53) := rfl
theorem xxx57 : Statement (.xxx57) := rfl
theorem xxx5B : Statement (.xxx5B) := rfl
theorem xxx5F : Statement (.xxx5F) := rfl
theorem xxx62 : Statement (.xxx62) := rfl
theorem xxx63 : Statement (.xxx63) := rfl
theorem xxx67 : Statement (.xxx67) := rfl
theorem xxx6B : Statement (.xxx6B) := rfl
theorem xxx6F : Statement (.xxx6F) := rfl
theorem xxx72 : Statement (.xxx72) := rfl
theorem xxx73 : Statement (.xxx73) := rfl
theorem xxx77 : Statement (.xxx77) := rfl
theorem xxx7B : Statement (.xxx7B) := rfl
theorem xxx7F : Statement (.xxx7F) := rfl
theorem xxx83 : Statement (.xxx83) := rfl
theorem xxx87 : Statement (.xxx87) := rfl
theorem xxx8B : Statement (.xxx8B) := rfl
theorem xxx8F : Statement (.xxx8F) := rfl
theorem xxx92 : Statement (.xxx92) := rfl
theorem xxx93 : Statement (.xxx93) := rfl
theorem xxx97 : Statement (.xxx97) := rfl
theorem xxx9B : Statement (.xxx9B) := rfl
theorem xxx9E : Statement (.xxx9E) := rfl
theorem xxx9F : Statement (.xxx9F) := rfl
theorem xxxA3 : Statement (.xxxA3) := rfl
theorem xxxA7 : Statement (.xxxA7) := rfl
theorem xxxAB : Statement (.xxxAB) := rfl
theorem xxxAF : Statement (.xxxAF) := rfl
theorem xxxB2 : Statement (.xxxB2) := rfl
theorem xxxB3 : Statement (.xxxB3) := rfl
theorem xxxB7 : Statement (.xxxB7) := rfl
theorem xxxBB : Statement (.xxxBB) := rfl
theorem xxxBF : Statement (.xxxBF) := rfl
theorem xxxC3 : Statement (.xxxC3) := rfl
theorem xxxC7 : Statement (.xxxC7) := rfl
theorem xxxCB : Statement (.xxxCB) := rfl
theorem xxxCF : Statement (.xxxCF) := rfl
theorem xxxD2 : Statement (.xxxD2) := rfl
theorem xxxD3 : Statement (.xxxD3) := rfl
theorem xxxD7 : Statement (.xxxD7) := rfl
theorem xxxDB : Statement (.xxxDB) := rfl
theorem xxxDF : Statement (.xxxDF) := rfl
theorem xxxE3 : Statement (.xxxE3) := rfl
theorem xxxE7 : Statement (.xxxE7) := rfl
theorem xxxEB : Statement (.xxxEB) := rfl
theorem xxxEF : Statement (.xxxEF) := rfl
theorem xxxF2 : Statement (.xxxF2) := rfl
theorem xxxF3 : Statement (.xxxF3) := rfl
theorem xxxF7 : Statement (.xxxF7) := rfl
theorem xxxFB : Statement (.xxxFB) := rfl
theorem xxxFF : Statement (.xxxFF) := rfl

end Sys2Proof.Laws.WellFormed
end

