-- ==== Sys2Proof/Tests/Slice0.lean ====
section
/-! SUPPORT. The model's own tests. Expected values come from the spec: the encodings of 30_encoding.md and
opcode_table.json, and the vectors of 95_test_vectors.md, named in each docstring. The witnesses at the end show, for
every obligation with hypotheses, a state and operands that meet them. -/

namespace Sys2Proof.Tests

open Sys2Proof Sys2Proof.Machine

/-- The default state of 95_test_vectors.md at `pc`, with the given memory. -/
def start (pc : Word) (m : Memory) : State :=
  { State.launch m 0x00 0x0000 with PC := pc, cycles := 0 }

/-- What an outcome shows, when it is a next state. -/
def see {α : Type} (o : Outcome) (f : State → α) : Option α :=
  match o with
  | .next t => some (f t)
  | .fault _ => none
  | .refused _ => none

/-! ## Well-formedness: every term of `Instr` passes; a pair of operation and mode that no row has is refused, and so is
a configuration with a base cycle count of 0. -/

theorem test_wellFormed_accepts : (Instr.ldaIzy 0x40).wellFormed = true ∧ Instr.nop1C.wellFormed = true := by decide

theorem test_wellFormed_refuses_modes :
    Op.allows .LDA .IMP = false ∧ Op.allows .LDX .ZPX = false ∧ Op.allows .LDY .ABY = false ∧
    Op.allows .STA .IMM = false ∧ Op.allows .STX .ABX = false ∧ Op.allows .STY .IZY = false ∧
    Op.allows .TAX .ABS = false ∧ Op.allows .AND .IND = false ∧ Op.allows .BIT .IMM = false ∧
    Op.allows .CPX .ZPX = false ∧ Op.allows .CPY .ABX = false ∧ Op.allows .ASL .IZX = false ∧
    Op.allows .ROR .ABY = false ∧ Op.allows .INC .IMP = false ∧ Op.allows .DEC .ZPY = false ∧
    Op.allows .BNE .IMM = false ∧ Op.allows .JMP .ABX = false ∧ Op.allows .JSR .IND = false ∧
    Op.allows .RTI .REL = false ∧ Op.allows .BRK .IMM = false ∧ Op.allows .NOP .ZP0 = false ∧
    Op.allows .XXX .ABS = false := by decide

theorem test_configuration_accepts : cfg.wellFormed := cfg_wellFormed

theorem test_configuration_refuses_zero_count :
    ¬ ({ cfg with baseCycles := fun opc => if opc = 0xEA then 0 else 2 } : Config).wellFormed := by
  intro h
  exact absurd (h.1 0xEA) (by decide)

theorem test_configuration_refuses_other_entry_length : ¬ ({ cfg with irqCycles := 6 } : Config).wellFormed := by
  intro h
  exact absurd h.2.2.1 (by decide)

/-! ## Configurations (00_scope.md R5; 30_encoding.md R97, R99). -/

/-- A configuration that is not the default one: every base count 5, every undocumented slot the catch-all, every NOP
with the signal. -/
def flat : Config where
  baseCycles _ := 5
  undocOp _ := .XXX
  nopExtra := [0x04, 0x1C, 0xEA]
  resetCycles := 8
  irqCycles := 7
  nmiCycles := 8

theorem test_flat_wellFormed : flat.wellFormed := ⟨fun _ => Nat.le_add_left 1 4, rfl, rfl, rfl⟩

/-- The mnemonic of a slot, and of documented bytes, under both configurations. -/
theorem test_mnemonicOf :
    mnemonicOf cfg 0x04 = "NOP" ∧ mnemonicOf cfg 0x02 = "XXX" ∧ mnemonicOf flat 0x04 = "XXX" ∧
    mnemonicOf flat 0xEA = "NOP" ∧ mnemonicOf flat 0xA9 = "LDA" := by decide

/-- A page cross adds 1 to the base count of the configuration, whatever that is (R122). -/
theorem test_flat_length :
    see (stepIn flat { start 0x8000 [(0x8000, 0xBD), (0x8001, 0xFF), (0x8002, 0x20)] with X := 1 })
      (fun t => [t.cycles, t.PC.toNat]) = some [5, 0x8003] ∧
    see (stepIn flat (start 0x8000 [(0x8000, 0xEA)])) (fun t => [t.cycles, t.PC.toNat]) = some [4, 0x8001] := by decide

/-! ## Decoding: the word of every constructor, its first byte bit by bit as `encoding` of opcode_table.json has it. -/

theorem test_decode_LDA :
    decode [0b10100001, 0xC5] = .ok (.ldaIzx 0xC5, []) ∧
    decode [0b10100101, 0xC5] = .ok (.ldaZp0 0xC5, []) ∧
    decode [0b10101001, 0xC5] = .ok (.ldaImm 0xC5, []) ∧
    decode [0b10101101, 0x34, 0x12] = .ok (.ldaAbs 0x1234, []) ∧
    decode [0b10110001, 0xC5] = .ok (.ldaIzy 0xC5, []) ∧
    decode [0b10110101, 0xC5] = .ok (.ldaZpx 0xC5, []) ∧
    decode [0b10111001, 0x34, 0x12] = .ok (.ldaAby 0x1234, []) ∧
    decode [0b10111101, 0x34, 0x12] = .ok (.ldaAbx 0x1234, []) :=
  ⟨rfl, rfl, rfl, rfl, rfl, rfl, rfl, rfl⟩

theorem test_decode_LDX :
    decode [0b10100010, 0xC5] = .ok (.ldxImm 0xC5, []) ∧
    decode [0b10100110, 0xC5] = .ok (.ldxZp0 0xC5, []) ∧
    decode [0b10101110, 0x34, 0x12] = .ok (.ldxAbs 0x1234, []) ∧
    decode [0b10110110, 0xC5] = .ok (.ldxZpy 0xC5, []) ∧
    decode [0b10111110, 0x34, 0x12] = .ok (.ldxAby 0x1234, []) :=
  ⟨rfl, rfl, rfl, rfl, rfl⟩

theorem test_decode_LDY :
    decode [0b10100000, 0xC5] = .ok (.ldyImm 0xC5, []) ∧
    decode [0b10100100, 0xC5] = .ok (.ldyZp0 0xC5, []) ∧
    decode [0b10101100, 0x34, 0x12] = .ok (.ldyAbs 0x1234, []) ∧
    decode [0b10110100, 0xC5] = .ok (.ldyZpx 0xC5, []) ∧
    decode [0b10111100, 0x34, 0x12] = .ok (.ldyAbx 0x1234, []) :=
  ⟨rfl, rfl, rfl, rfl, rfl⟩

theorem test_decode_STA :
    decode [0b10000001, 0xC5] = .ok (.staIzx 0xC5, []) ∧
    decode [0b10000101, 0xC5] = .ok (.staZp0 0xC5, []) ∧
    decode [0b10001101, 0x34, 0x12] = .ok (.staAbs 0x1234, []) ∧
    decode [0b10010001, 0xC5] = .ok (.staIzy 0xC5, []) ∧
    decode [0b10010101, 0xC5] = .ok (.staZpx 0xC5, []) ∧
    decode [0b10011001, 0x34, 0x12] = .ok (.staAby 0x1234, []) ∧
    decode [0b10011101, 0x34, 0x12] = .ok (.staAbx 0x1234, []) :=
  ⟨rfl, rfl, rfl, rfl, rfl, rfl, rfl⟩

theorem test_decode_STX :
    decode [0b10000110, 0xC5] = .ok (.stxZp0 0xC5, []) ∧
    decode [0b10001110, 0x34, 0x12] = .ok (.stxAbs 0x1234, []) ∧
    decode [0b10010110, 0xC5] = .ok (.stxZpy 0xC5, []) :=
  ⟨rfl, rfl, rfl⟩

theorem test_decode_STY :
    decode [0b10000100, 0xC5] = .ok (.styZp0 0xC5, []) ∧
    decode [0b10001100, 0x34, 0x12] = .ok (.styAbs 0x1234, []) ∧
    decode [0b10010100, 0xC5] = .ok (.styZpx 0xC5, []) :=
  ⟨rfl, rfl, rfl⟩

theorem test_decode_TAX :
    decode [0b10101010] = .ok (.tax, []) :=
  rfl

theorem test_decode_TAY :
    decode [0b10101000] = .ok (.tay, []) :=
  rfl

theorem test_decode_TXA :
    decode [0b10001010] = .ok (.txa, []) :=
  rfl

theorem test_decode_TYA :
    decode [0b10011000] = .ok (.tya, []) :=
  rfl

theorem test_decode_TSX :
    decode [0b10111010] = .ok (.tsx, []) :=
  rfl

theorem test_decode_TXS :
    decode [0b10011010] = .ok (.txs, []) :=
  rfl

theorem test_decode_AND :
    decode [0b00100001, 0xC5] = .ok (.andIzx 0xC5, []) ∧
    decode [0b00100101, 0xC5] = .ok (.andZp0 0xC5, []) ∧
    decode [0b00101001, 0xC5] = .ok (.andImm 0xC5, []) ∧
    decode [0b00101101, 0x34, 0x12] = .ok (.andAbs 0x1234, []) ∧
    decode [0b00110001, 0xC5] = .ok (.andIzy 0xC5, []) ∧
    decode [0b00110101, 0xC5] = .ok (.andZpx 0xC5, []) ∧
    decode [0b00111001, 0x34, 0x12] = .ok (.andAby 0x1234, []) ∧
    decode [0b00111101, 0x34, 0x12] = .ok (.andAbx 0x1234, []) :=
  ⟨rfl, rfl, rfl, rfl, rfl, rfl, rfl, rfl⟩

theorem test_decode_ORA :
    decode [0b00000001, 0xC5] = .ok (.oraIzx 0xC5, []) ∧
    decode [0b00000101, 0xC5] = .ok (.oraZp0 0xC5, []) ∧
    decode [0b00001001, 0xC5] = .ok (.oraImm 0xC5, []) ∧
    decode [0b00001101, 0x34, 0x12] = .ok (.oraAbs 0x1234, []) ∧
    decode [0b00010001, 0xC5] = .ok (.oraIzy 0xC5, []) ∧
    decode [0b00010101, 0xC5] = .ok (.oraZpx 0xC5, []) ∧
    decode [0b00011001, 0x34, 0x12] = .ok (.oraAby 0x1234, []) ∧
    decode [0b00011101, 0x34, 0x12] = .ok (.oraAbx 0x1234, []) :=
  ⟨rfl, rfl, rfl, rfl, rfl, rfl, rfl, rfl⟩

theorem test_decode_EOR :
    decode [0b01000001, 0xC5] = .ok (.eorIzx 0xC5, []) ∧
    decode [0b01000101, 0xC5] = .ok (.eorZp0 0xC5, []) ∧
    decode [0b01001001, 0xC5] = .ok (.eorImm 0xC5, []) ∧
    decode [0b01001101, 0x34, 0x12] = .ok (.eorAbs 0x1234, []) ∧
    decode [0b01010001, 0xC5] = .ok (.eorIzy 0xC5, []) ∧
    decode [0b01010101, 0xC5] = .ok (.eorZpx 0xC5, []) ∧
    decode [0b01011001, 0x34, 0x12] = .ok (.eorAby 0x1234, []) ∧
    decode [0b01011101, 0x34, 0x12] = .ok (.eorAbx 0x1234, []) :=
  ⟨rfl, rfl, rfl, rfl, rfl, rfl, rfl, rfl⟩

theorem test_decode_BIT :
    decode [0b00100100, 0xC5] = .ok (.bitZp0 0xC5, []) ∧
    decode [0b00101100, 0x34, 0x12] = .ok (.bitAbs 0x1234, []) :=
  ⟨rfl, rfl⟩

theorem test_decode_ADC :
    decode [0b01100001, 0xC5] = .ok (.adcIzx 0xC5, []) ∧
    decode [0b01100101, 0xC5] = .ok (.adcZp0 0xC5, []) ∧
    decode [0b01101001, 0xC5] = .ok (.adcImm 0xC5, []) ∧
    decode [0b01101101, 0x34, 0x12] = .ok (.adcAbs 0x1234, []) ∧
    decode [0b01110001, 0xC5] = .ok (.adcIzy 0xC5, []) ∧
    decode [0b01110101, 0xC5] = .ok (.adcZpx 0xC5, []) ∧
    decode [0b01111001, 0x34, 0x12] = .ok (.adcAby 0x1234, []) ∧
    decode [0b01111101, 0x34, 0x12] = .ok (.adcAbx 0x1234, []) :=
  ⟨rfl, rfl, rfl, rfl, rfl, rfl, rfl, rfl⟩

theorem test_decode_SBC :
    decode [0b11100001, 0xC5] = .ok (.sbcIzx 0xC5, []) ∧
    decode [0b11100101, 0xC5] = .ok (.sbcZp0 0xC5, []) ∧
    decode [0b11101001, 0xC5] = .ok (.sbcImm 0xC5, []) ∧
    decode [0b11101101, 0x34, 0x12] = .ok (.sbcAbs 0x1234, []) ∧
    decode [0b11110001, 0xC5] = .ok (.sbcIzy 0xC5, []) ∧
    decode [0b11110101, 0xC5] = .ok (.sbcZpx 0xC5, []) ∧
    decode [0b11111001, 0x34, 0x12] = .ok (.sbcAby 0x1234, []) ∧
    decode [0b11111101, 0x34, 0x12] = .ok (.sbcAbx 0x1234, []) :=
  ⟨rfl, rfl, rfl, rfl, rfl, rfl, rfl, rfl⟩

theorem test_decode_CMP :
    decode [0b11000001, 0xC5] = .ok (.cmpIzx 0xC5, []) ∧
    decode [0b11000101, 0xC5] = .ok (.cmpZp0 0xC5, []) ∧
    decode [0b11001001, 0xC5] = .ok (.cmpImm 0xC5, []) ∧
    decode [0b11001101, 0x34, 0x12] = .ok (.cmpAbs 0x1234, []) ∧
    decode [0b11010001, 0xC5] = .ok (.cmpIzy 0xC5, []) ∧
    decode [0b11010101, 0xC5] = .ok (.cmpZpx 0xC5, []) ∧
    decode [0b11011001, 0x34, 0x12] = .ok (.cmpAby 0x1234, []) ∧
    decode [0b11011101, 0x34, 0x12] = .ok (.cmpAbx 0x1234, []) :=
  ⟨rfl, rfl, rfl, rfl, rfl, rfl, rfl, rfl⟩

theorem test_decode_CPX :
    decode [0b11100000, 0xC5] = .ok (.cpxImm 0xC5, []) ∧
    decode [0b11100100, 0xC5] = .ok (.cpxZp0 0xC5, []) ∧
    decode [0b11101100, 0x34, 0x12] = .ok (.cpxAbs 0x1234, []) :=
  ⟨rfl, rfl, rfl⟩

theorem test_decode_CPY :
    decode [0b11000000, 0xC5] = .ok (.cpyImm 0xC5, []) ∧
    decode [0b11000100, 0xC5] = .ok (.cpyZp0 0xC5, []) ∧
    decode [0b11001100, 0x34, 0x12] = .ok (.cpyAbs 0x1234, []) :=
  ⟨rfl, rfl, rfl⟩

theorem test_decode_ASL :
    decode [0b00000110, 0xC5] = .ok (.aslZp0 0xC5, []) ∧
    decode [0b00001010] = .ok (.aslImp, []) ∧
    decode [0b00001110, 0x34, 0x12] = .ok (.aslAbs 0x1234, []) ∧
    decode [0b00010110, 0xC5] = .ok (.aslZpx 0xC5, []) ∧
    decode [0b00011110, 0x34, 0x12] = .ok (.aslAbx 0x1234, []) :=
  ⟨rfl, rfl, rfl, rfl, rfl⟩

theorem test_decode_LSR :
    decode [0b01000110, 0xC5] = .ok (.lsrZp0 0xC5, []) ∧
    decode [0b01001010] = .ok (.lsrImp, []) ∧
    decode [0b01001110, 0x34, 0x12] = .ok (.lsrAbs 0x1234, []) ∧
    decode [0b01010110, 0xC5] = .ok (.lsrZpx 0xC5, []) ∧
    decode [0b01011110, 0x34, 0x12] = .ok (.lsrAbx 0x1234, []) :=
  ⟨rfl, rfl, rfl, rfl, rfl⟩

theorem test_decode_ROL :
    decode [0b00100110, 0xC5] = .ok (.rolZp0 0xC5, []) ∧
    decode [0b00101010] = .ok (.rolImp, []) ∧
    decode [0b00101110, 0x34, 0x12] = .ok (.rolAbs 0x1234, []) ∧
    decode [0b00110110, 0xC5] = .ok (.rolZpx 0xC5, []) ∧
    decode [0b00111110, 0x34, 0x12] = .ok (.rolAbx 0x1234, []) :=
  ⟨rfl, rfl, rfl, rfl, rfl⟩

theorem test_decode_ROR :
    decode [0b01100110, 0xC5] = .ok (.rorZp0 0xC5, []) ∧
    decode [0b01101010] = .ok (.rorImp, []) ∧
    decode [0b01101110, 0x34, 0x12] = .ok (.rorAbs 0x1234, []) ∧
    decode [0b01110110, 0xC5] = .ok (.rorZpx 0xC5, []) ∧
    decode [0b01111110, 0x34, 0x12] = .ok (.rorAbx 0x1234, []) :=
  ⟨rfl, rfl, rfl, rfl, rfl⟩

theorem test_decode_INC :
    decode [0b11100110, 0xC5] = .ok (.incZp0 0xC5, []) ∧
    decode [0b11101110, 0x34, 0x12] = .ok (.incAbs 0x1234, []) ∧
    decode [0b11110110, 0xC5] = .ok (.incZpx 0xC5, []) ∧
    decode [0b11111110, 0x34, 0x12] = .ok (.incAbx 0x1234, []) :=
  ⟨rfl, rfl, rfl, rfl⟩

theorem test_decode_DEC :
    decode [0b11000110, 0xC5] = .ok (.decZp0 0xC5, []) ∧
    decode [0b11001110, 0x34, 0x12] = .ok (.decAbs 0x1234, []) ∧
    decode [0b11010110, 0xC5] = .ok (.decZpx 0xC5, []) ∧
    decode [0b11011110, 0x34, 0x12] = .ok (.decAbx 0x1234, []) :=
  ⟨rfl, rfl, rfl, rfl⟩

theorem test_decode_INX :
    decode [0b11101000] = .ok (.inx, []) :=
  rfl

theorem test_decode_INY :
    decode [0b11001000] = .ok (.iny, []) :=
  rfl

theorem test_decode_DEX :
    decode [0b11001010] = .ok (.dex, []) :=
  rfl

theorem test_decode_DEY :
    decode [0b10001000] = .ok (.dey, []) :=
  rfl

theorem test_decode_BCC :
    decode [0b10010000, 0xC5] = .ok (.bcc 0xC5, []) :=
  rfl

theorem test_decode_BCS :
    decode [0b10110000, 0xC5] = .ok (.bcs 0xC5, []) :=
  rfl

theorem test_decode_BEQ :
    decode [0b11110000, 0xC5] = .ok (.beq 0xC5, []) :=
  rfl

theorem test_decode_BNE :
    decode [0b11010000, 0xC5] = .ok (.bne 0xC5, []) :=
  rfl

theorem test_decode_BMI :
    decode [0b00110000, 0xC5] = .ok (.bmi 0xC5, []) :=
  rfl

theorem test_decode_BPL :
    decode [0b00010000, 0xC5] = .ok (.bpl 0xC5, []) :=
  rfl

theorem test_decode_BVC :
    decode [0b01010000, 0xC5] = .ok (.bvc 0xC5, []) :=
  rfl

theorem test_decode_BVS :
    decode [0b01110000, 0xC5] = .ok (.bvs 0xC5, []) :=
  rfl

theorem test_decode_JMP :
    decode [0b01001100, 0x34, 0x12] = .ok (.jmpAbs 0x1234, []) ∧
    decode [0b01101100, 0x34, 0x12] = .ok (.jmpInd 0x1234, []) :=
  ⟨rfl, rfl⟩

theorem test_decode_JSR :
    decode [0b00100000, 0x34, 0x12] = .ok (.jsr 0x1234, []) :=
  rfl

theorem test_decode_RTS :
    decode [0b01100000] = .ok (.rts, []) :=
  rfl

theorem test_decode_PHA :
    decode [0b01001000] = .ok (.pha, []) :=
  rfl

theorem test_decode_PHP :
    decode [0b00001000] = .ok (.php, []) :=
  rfl

theorem test_decode_PLA :
    decode [0b01101000] = .ok (.pla, []) :=
  rfl

theorem test_decode_PLP :
    decode [0b00101000] = .ok (.plp, []) :=
  rfl

theorem test_decode_CLC :
    decode [0b00011000] = .ok (.clc, []) :=
  rfl

theorem test_decode_CLD :
    decode [0b11011000] = .ok (.cld, []) :=
  rfl

theorem test_decode_CLI :
    decode [0b01011000] = .ok (.cli, []) :=
  rfl

theorem test_decode_CLV :
    decode [0b10111000] = .ok (.clv, []) :=
  rfl

theorem test_decode_SEC :
    decode [0b00111000] = .ok (.sec, []) :=
  rfl

theorem test_decode_SED :
    decode [0b11111000] = .ok (.sed, []) :=
  rfl

theorem test_decode_SEI :
    decode [0b01111000] = .ok (.sei, []) :=
  rfl

theorem test_decode_BRK :
    decode [0b00000000] = .ok (.brk, []) :=
  rfl

theorem test_decode_RTI :
    decode [0b01000000] = .ok (.rti, []) :=
  rfl

theorem test_decode_NOP_1 :
    decode [0b00000100] = .ok (.nop04, []) ∧
    decode [0b00001100] = .ok (.nop0C, []) ∧
    decode [0b00010100] = .ok (.nop14, []) ∧
    decode [0b00011010] = .ok (.nop1A, []) ∧
    decode [0b00011100] = .ok (.nop1C, []) ∧
    decode [0b00110100] = .ok (.nop34, []) ∧
    decode [0b00111010] = .ok (.nop3A, []) ∧
    decode [0b00111100] = .ok (.nop3C, []) ∧
    decode [0b01000100] = .ok (.nop44, []) ∧
    decode [0b01010100] = .ok (.nop54, []) ∧
    decode [0b01011010] = .ok (.nop5A, []) ∧
    decode [0b01011100] = .ok (.nop5C, []) ∧
    decode [0b01100100] = .ok (.nop64, []) ∧
    decode [0b01110100] = .ok (.nop74, []) ∧
    decode [0b01111010] = .ok (.nop7A, []) ∧
    decode [0b01111100] = .ok (.nop7C, []) :=
  ⟨rfl, rfl, rfl, rfl, rfl, rfl, rfl, rfl, rfl, rfl, rfl, rfl, rfl, rfl, rfl, rfl⟩

theorem test_decode_NOP_2 :
    decode [0b10000000] = .ok (.nop80, []) ∧
    decode [0b10000010] = .ok (.nop82, []) ∧
    decode [0b10001001] = .ok (.nop89, []) ∧
    decode [0b10011100] = .ok (.nop9C, []) ∧
    decode [0b11000010] = .ok (.nopC2, []) ∧
    decode [0b11010100] = .ok (.nopD4, []) ∧
    decode [0b11011010] = .ok (.nopDA, []) ∧
    decode [0b11011100] = .ok (.nopDC, []) ∧
    decode [0b11100010] = .ok (.nopE2, []) ∧
    decode [0b11101010] = .ok (.nop, []) ∧
    decode [0b11110100] = .ok (.nopF4, []) ∧
    decode [0b11111010] = .ok (.nopFA, []) ∧
    decode [0b11111100] = .ok (.nopFC, []) :=
  ⟨rfl, rfl, rfl, rfl, rfl, rfl, rfl, rfl, rfl, rfl, rfl, rfl, rfl⟩

theorem test_decode_XXX_1 :
    decode [0b00000010] = .ok (.xxx02, []) ∧
    decode [0b00000011] = .ok (.xxx03, []) ∧
    decode [0b00000111] = .ok (.xxx07, []) ∧
    decode [0b00001011] = .ok (.xxx0B, []) ∧
    decode [0b00001111] = .ok (.xxx0F, []) ∧
    decode [0b00010010] = .ok (.xxx12, []) ∧
    decode [0b00010011] = .ok (.xxx13, []) ∧
    decode [0b00010111] = .ok (.xxx17, []) ∧
    decode [0b00011011] = .ok (.xxx1B, []) ∧
    decode [0b00011111] = .ok (.xxx1F, []) ∧
    decode [0b00100010] = .ok (.xxx22, []) ∧
    decode [0b00100011] = .ok (.xxx23, []) ∧
    decode [0b00100111] = .ok (.xxx27, []) ∧
    decode [0b00101011] = .ok (.xxx2B, []) ∧
    decode [0b00101111] = .ok (.xxx2F, []) ∧
    decode [0b00110010] = .ok (.xxx32, []) :=
  ⟨rfl, rfl, rfl, rfl, rfl, rfl, rfl, rfl, rfl, rfl, rfl, rfl, rfl, rfl, rfl, rfl⟩

theorem test_decode_XXX_2 :
    decode [0b00110011] = .ok (.xxx33, []) ∧
    decode [0b00110111] = .ok (.xxx37, []) ∧
    decode [0b00111011] = .ok (.xxx3B, []) ∧
    decode [0b00111111] = .ok (.xxx3F, []) ∧
    decode [0b01000010] = .ok (.xxx42, []) ∧
    decode [0b01000011] = .ok (.xxx43, []) ∧
    decode [0b01000111] = .ok (.xxx47, []) ∧
    decode [0b01001011] = .ok (.xxx4B, []) ∧
    decode [0b01001111] = .ok (.xxx4F, []) ∧
    decode [0b01010010] = .ok (.xxx52, []) ∧
    decode [0b01010011] = .ok (.xxx53, []) ∧
    decode [0b01010111] = .ok (.xxx57, []) ∧
    decode [0b01011011] = .ok (.xxx5B, []) ∧
    decode [0b01011111] = .ok (.xxx5F, []) ∧
    decode [0b01100010] = .ok (.xxx62, []) ∧
    decode [0b01100011] = .ok (.xxx63, []) :=
  ⟨rfl, rfl, rfl, rfl, rfl, rfl, rfl, rfl, rfl, rfl, rfl, rfl, rfl, rfl, rfl, rfl⟩

theorem test_decode_XXX_3 :
    decode [0b01100111] = .ok (.xxx67, []) ∧
    decode [0b01101011] = .ok (.xxx6B, []) ∧
    decode [0b01101111] = .ok (.xxx6F, []) ∧
    decode [0b01110010] = .ok (.xxx72, []) ∧
    decode [0b01110011] = .ok (.xxx73, []) ∧
    decode [0b01110111] = .ok (.xxx77, []) ∧
    decode [0b01111011] = .ok (.xxx7B, []) ∧
    decode [0b01111111] = .ok (.xxx7F, []) ∧
    decode [0b10000011] = .ok (.xxx83, []) ∧
    decode [0b10000111] = .ok (.xxx87, []) ∧
    decode [0b10001011] = .ok (.xxx8B, []) ∧
    decode [0b10001111] = .ok (.xxx8F, []) ∧
    decode [0b10010010] = .ok (.xxx92, []) ∧
    decode [0b10010011] = .ok (.xxx93, []) ∧
    decode [0b10010111] = .ok (.xxx97, []) ∧
    decode [0b10011011] = .ok (.xxx9B, []) :=
  ⟨rfl, rfl, rfl, rfl, rfl, rfl, rfl, rfl, rfl, rfl, rfl, rfl, rfl, rfl, rfl, rfl⟩

theorem test_decode_XXX_4 :
    decode [0b10011110] = .ok (.xxx9E, []) ∧
    decode [0b10011111] = .ok (.xxx9F, []) ∧
    decode [0b10100011] = .ok (.xxxA3, []) ∧
    decode [0b10100111] = .ok (.xxxA7, []) ∧
    decode [0b10101011] = .ok (.xxxAB, []) ∧
    decode [0b10101111] = .ok (.xxxAF, []) ∧
    decode [0b10110010] = .ok (.xxxB2, []) ∧
    decode [0b10110011] = .ok (.xxxB3, []) ∧
    decode [0b10110111] = .ok (.xxxB7, []) ∧
    decode [0b10111011] = .ok (.xxxBB, []) ∧
    decode [0b10111111] = .ok (.xxxBF, []) ∧
    decode [0b11000011] = .ok (.xxxC3, []) ∧
    decode [0b11000111] = .ok (.xxxC7, []) ∧
    decode [0b11001011] = .ok (.xxxCB, []) ∧
    decode [0b11001111] = .ok (.xxxCF, []) ∧
    decode [0b11010010] = .ok (.xxxD2, []) :=
  ⟨rfl, rfl, rfl, rfl, rfl, rfl, rfl, rfl, rfl, rfl, rfl, rfl, rfl, rfl, rfl, rfl⟩

theorem test_decode_XXX_5 :
    decode [0b11010011] = .ok (.xxxD3, []) ∧
    decode [0b11010111] = .ok (.xxxD7, []) ∧
    decode [0b11011011] = .ok (.xxxDB, []) ∧
    decode [0b11011111] = .ok (.xxxDF, []) ∧
    decode [0b11100011] = .ok (.xxxE3, []) ∧
    decode [0b11100111] = .ok (.xxxE7, []) ∧
    decode [0b11101011] = .ok (.xxxEB, []) ∧
    decode [0b11101111] = .ok (.xxxEF, []) ∧
    decode [0b11110010] = .ok (.xxxF2, []) ∧
    decode [0b11110011] = .ok (.xxxF3, []) ∧
    decode [0b11110111] = .ok (.xxxF7, []) ∧
    decode [0b11111011] = .ok (.xxxFB, []) ∧
    decode [0b11111111] = .ok (.xxxFF, []) :=
  ⟨rfl, rfl, rfl, rfl, rfl, rfl, rfl, rfl, rfl, rfl, rfl, rfl, rfl⟩

/-- A byte string that lacks bytes is refused by name, and nothing else is. -/
theorem test_decode_refuses :
    decode [] = .error .noOpcode ∧ decode [0xA9] = .error (.missingOperand 0xA9) ∧
    decode [0x4C, 0x00] = .error (.missingOperand 0x4C) :=
  ⟨rfl, rfl, rfl⟩

/-- The bytes after an instruction are handed back. -/
theorem test_decode_rest : decode [0x6C, 0xFF, 0x30, 0xEA] = .ok (.jmpInd 0x30FF, [0xEA]) := rfl

theorem test_encode_low_byte_first : encode (.jmpInd 0x30FF) = [0x6C, 0xFF, 0x30] := by decide

/-- Bit 0 of a table word is the least significant bit of byte 0; bits from `nbits` up are 0. -/
theorem test_decodeTableWord :
    decodeTableWord 16 0x7FA9 = some (.ldaImm 0x7F) ∧ decodeTableWord 24 0x30FF6C = some (.jmpInd 0x30FF) ∧
    decodeTableWord 8 0x6C = some (.jmpInd 0x0000) ∧ decodeTableWord 8 0xFF02 = some .xxx02 := by decide

theorem test_withFetchWord :
    see (step (State.reset.withFetchWord 16 0x7FA9)) (fun t => (t.A, t.opcode, t.PC)) = some (0x7F, 0xA9, 0x0002) := by
  decide

/-! ## Reset, memory. -/

theorem test_reset_memory_wf : State.reset.M.wf := by decide

theorem test_reset_inv : State.reset.inv := by decide

/-- A write keeps the list sorted, and a write of the byte an unlisted address reads as removes the cell. -/
theorem test_memory_canonical :
    (Memory.busWrite [(0x10, 0x01), (0x30, 0x03)] 0x20 0x02 = [(0x10, 0x01), (0x20, 0x02), (0x30, 0x03)]) ∧
    (Memory.busWrite [(0x10, 0x01), (0x30, 0x03)] 0x10 0x00 = [(0x30, 0x03)]) ∧
    (Memory.busWrite [(0x10, 0x01)] 0x10 0x07 = [(0x10, 0x07)]) ∧
    (Memory.busWrite [(0x10, 0x01)] 0x10010 0x07 = [(0x10, 0x01)]) ∧
    Memory.busRead [(0x10, 0x01)] 0x10010 true = 0x01 := by decide

/-- 95_test_vectors.md V-R1, V-R2: the `Reset` event, twice. -/
theorem test_V_R1_reset :
    see (handleAll [.reset, .reset]
      { start 0x4444 [(0xFFFC, 0x34), (0xFFFD, 0x12)] with
        A := 0x01, X := 0x02, Y := 0x03, SP := 0x10, P := 0xFF, cycles := 3, clockCount := 999, addrAbs := 0x1111,
        addrRel := 0xFFF0, fetched := 0x77, opcode := 0xA9, temp := 0x1234 })
      (fun t => [t.A.toNat, t.X.toNat, t.Y.toNat, t.SP.toNat, t.P.toNat, t.PC.toNat, t.cycles, t.clockCount, t.addrAbs.toNat, t.opcode.toNat, t.temp.toNat]) =
      some [0x00, 0x00, 0x00, 0xFD, 0x20, 0x1234, 8, 0, 0x0000, 0xA9, 0x1234] := by decide

/-- 95_test_vectors.md V-I1: an accepted `Irq`. -/
theorem test_V_I1_irq :
    see (handle .irq { start 0x8005 [(0xFFFF, 0x90)] with P := 0x21 })
      (fun t => [t.PC.toNat, t.P.toNat, t.SP.toNat, t.cycles, (t.memRead 0x01FD).toNat, (t.memRead 0x01FC).toNat, (t.memRead 0x01FB).toNat, t.addrAbs.toNat]) =
      some [0x9000, 0x25, 0xFA, 7, 0x80, 0x05, 0x25, 0xFFFE] := by decide

/-- 95_test_vectors.md V-I4: an accepted `Irq` that finds `B` set, with the stack wrapping. -/
theorem test_V_I4_irq :
    see (handle .irq { start 0x1234 [(0xFFFE, 0xCD), (0xFFFF, 0xAB)] with P := 0xF3, SP := 0x01 })
      (fun t => [t.PC.toNat, t.P.toNat, t.SP.toNat, t.cycles, (t.memRead 0x0101).toNat, (t.memRead 0x0100).toNat, (t.memRead 0x01FF).toNat]) =
      some [0xABCD, 0xE7, 0xFE, 7, 0x12, 0x34, 0xE7] := by decide

/-- 95_test_vectors.md V-I3: an `Nmi` with `I` set. -/
theorem test_V_I3_nmi :
    see (handle .nmi { start 0x8005 [(0xFFFB, 0xA0)] with P := 0x25 })
      (fun t => [t.PC.toNat, t.P.toNat, t.SP.toNat, t.cycles, (t.memRead 0x01FD).toNat, (t.memRead 0x01FC).toNat, (t.memRead 0x01FB).toNat, t.addrAbs.toNat]) =
      some [0xA000, 0x25, 0xFA, 8, 0x80, 0x05, 0x25, 0xFFFA] := by decide

/-- 60_exceptions.md R267: the order of a pin-level wrapper. -/
theorem test_edgeEvents :
    edgeEvents true true true = [.reset] ∧ edgeEvents false true true = [.clock, .nmi, .irq] ∧
    edgeEvents false false false = [.clock] := by decide

/-! ## One step per vector: what it changes, and the cycles that are left after the first event. -/

/-- 95_test_vectors.md V-A2. -/
theorem test_V_A2_LDA :
    see (step (start 0x8000 [(0x0010, 0x80), (0x8000, 0xA5), (0x8001, 0x10)])) (fun t => [t.A.toNat, t.P.toNat, t.PC.toNat, t.cycles]) =
      some [0x80, 0xA0, 0x8002, 2] := by decide

/-- 95_test_vectors.md V-A12. -/
theorem test_V_A12_LDA :
    see (step ({ start 0x8000 [(0x0086, 0x28), (0x0087, 0x40), (0x4118, 0x01), (0x8000, 0xB1), (0x8001, 0x86)] with Y := 0xF0 })) (fun t => [t.A.toNat, t.Y.toNat, t.P.toNat, t.PC.toNat, t.cycles]) =
      some [0x01, 0xF0, 0x20, 0x8002, 5] := by decide

/-- 95_test_vectors.md V-A4. -/
theorem test_V_A4_LDX :
    see (step ({ start 0x8000 [(0x0001, 0x44), (0x8000, 0xB6), (0x8001, 0xFF)] with Y := 0x02 })) (fun t => [t.X.toNat, t.Y.toNat, t.P.toNat, t.PC.toNat, t.cycles]) =
      some [0x44, 0x02, 0x20, 0x8002, 3] := by decide

/-- 95_test_vectors.md V-L3. -/
theorem test_V_L3_LDY :
    see (step ({ start 0x8000 [(0x8000, 0xA0), (0x8001, 0x01)] with P := 0xA2 })) (fun t => [t.Y.toNat, t.P.toNat, t.PC.toNat, t.cycles]) =
      some [0x01, 0x20, 0x8002, 1] := by decide

/-- 95_test_vectors.md V-L4. -/
theorem test_V_L4_STA :
    see (step ({ start 0x8000 [(0x8000, 0x85), (0x8001, 0x10)] with A := 0xFF })) (fun t => [t.A.toNat, t.P.toNat, t.PC.toNat, (t.memRead 0x0010).toNat, t.cycles]) =
      some [0xFF, 0x20, 0x8002, 0xFF, 2] := by decide

/-- 95_test_vectors.md V-A20. -/
theorem test_V_A20_STA :
    see (step ({ start 0x8000 [(0x0040, 0x01), (0x0041, 0x30), (0x8000, 0x91), (0x8001, 0x40)] with Y := 0xFF, A := 0x77 })) (fun t => [t.A.toNat, t.Y.toNat, t.P.toNat, t.PC.toNat, (t.memRead 0x3100).toNat, t.cycles]) =
      some [0x77, 0xFF, 0x20, 0x8002, 0x77, 5] := by decide

/-- 95_test_vectors.md V-L5. -/
theorem test_V_L5_STX :
    see (step ({ start 0x8000 [(0x8000, 0x96), (0x8001, 0x10)] with X := 0x33, Y := 0xF8 })) (fun t => [t.X.toNat, t.Y.toNat, t.P.toNat, t.PC.toNat, (t.memRead 0x0008).toNat, t.cycles]) =
      some [0x33, 0xF8, 0x20, 0x8002, 0x33, 3] := by decide

/-- 95_test_vectors.md V-L6. -/
theorem test_V_L6_STY :
    see (step ({ start 0x8000 [(0x8000, 0x8C), (0x8002, 0x02)] with Y := 0x00 })) (fun t => [t.Y.toNat, t.P.toNat, t.PC.toNat, (t.memRead 0x0200).toNat, t.cycles]) =
      some [0x00, 0x20, 0x8003, 0x00, 3] := by decide

/-- 95_test_vectors.md V-L7. -/
theorem test_V_L7_TAX :
    see (step ({ start 0x8000 [(0x8000, 0xAA)] with A := 0x00, X := 0x12 })) (fun t => [t.A.toNat, t.X.toNat, t.P.toNat, t.PC.toNat, t.cycles]) =
      some [0x00, 0x00, 0x22, 0x8001, 1] := by decide

/-- 95_test_vectors.md V-L8. -/
theorem test_V_L8_TAY :
    see (step ({ start 0x8000 [(0x8000, 0xA8)] with A := 0x80 })) (fun t => [t.A.toNat, t.Y.toNat, t.P.toNat, t.PC.toNat, t.cycles]) =
      some [0x80, 0x80, 0xA0, 0x8001, 1] := by decide

/-- 95_test_vectors.md V-L9. -/
theorem test_V_L9_TXA :
    see (step ({ start 0x8000 [(0x8000, 0x8A)] with X := 0x7F, A := 0xFF, P := 0xA0 })) (fun t => [t.A.toNat, t.X.toNat, t.P.toNat, t.PC.toNat, t.cycles]) =
      some [0x7F, 0x7F, 0x20, 0x8001, 1] := by decide

/-- 95_test_vectors.md V-L10. -/
theorem test_V_L10_TYA :
    see (step ({ start 0x8000 [(0x8000, 0x98)] with Y := 0x00, A := 0x01 })) (fun t => [t.A.toNat, t.Y.toNat, t.P.toNat, t.PC.toNat, t.cycles]) =
      some [0x00, 0x00, 0x22, 0x8001, 1] := by decide

/-- 95_test_vectors.md V-L11. -/
theorem test_V_L11_TSX :
    see (step ({ start 0x8000 [(0x8000, 0xBA)] with SP := 0xFD })) (fun t => [t.X.toNat, t.SP.toNat, t.P.toNat, t.PC.toNat, t.cycles]) =
      some [0xFD, 0xFD, 0xA0, 0x8001, 1] := by decide

/-- 95_test_vectors.md V-L14. -/
theorem test_V_L14_TXS :
    see (step ({ start 0x8000 [(0x8000, 0x9A)] with X := 0xFF, P := 0x22 })) (fun t => [t.X.toNat, t.SP.toNat, t.P.toNat, t.PC.toNat, t.cycles]) =
      some [0xFF, 0xFF, 0x22, 0x8001, 1] := by decide

/-- 95_test_vectors.md V-G1. -/
theorem test_V_G1_AND :
    see (step ({ start 0x8000 [(0x8000, 0x29), (0x8001, 0x0F)] with A := 0xF0 })) (fun t => [t.A.toNat, t.P.toNat, t.PC.toNat, t.cycles]) =
      some [0x00, 0x22, 0x8002, 1] := by decide

/-- 95_test_vectors.md V-G2. -/
theorem test_V_G2_ORA :
    see (step ({ start 0x8000 [(0x8000, 0x09), (0x8001, 0x80)] with A := 0x01 })) (fun t => [t.A.toNat, t.P.toNat, t.PC.toNat, t.cycles]) =
      some [0x81, 0xA0, 0x8002, 1] := by decide

/-- 95_test_vectors.md V-G3. -/
theorem test_V_G3_EOR :
    see (step ({ start 0x8000 [(0x8000, 0x49), (0x8001, 0xFF)] with A := 0xFF })) (fun t => [t.A.toNat, t.P.toNat, t.PC.toNat, t.cycles]) =
      some [0x00, 0x22, 0x8002, 1] := by decide

/-- 95_test_vectors.md V-G4. -/
theorem test_V_G4_BIT :
    see (step ({ start 0x8000 [(0x0010, 0xC0), (0x8000, 0x24), (0x8001, 0x10)] with A := 0x01 })) (fun t => [t.A.toNat, t.P.toNat, t.PC.toNat, t.cycles]) =
      some [0x01, 0xE2, 0x8002, 2] := by decide

/-- 95_test_vectors.md V-G5. -/
theorem test_V_G5_BIT :
    see (step ({ start 0x8000 [(0x2000, 0x3F), (0x8000, 0x2C), (0x8002, 0x20)] with A := 0xFF, P := 0xE2 })) (fun t => [t.A.toNat, t.P.toNat, t.PC.toNat, t.cycles]) =
      some [0xFF, 0x20, 0x8003, 3] := by decide

/-- 95_test_vectors.md V-G7. -/
theorem test_V_G7_ADC :
    see (step ({ start 0x8000 [(0x8000, 0x69), (0x8001, 0x01)] with A := 0xFF })) (fun t => [t.A.toNat, t.P.toNat, t.PC.toNat, t.cycles]) =
      some [0x00, 0x23, 0x8002, 1] := by decide

/-- 95_test_vectors.md V-G11. -/
theorem test_V_G11_ADC :
    see (step ({ start 0x8000 [(0x8000, 0x69), (0x8001, 0x99)] with A := 0x01, P := 0x28 })) (fun t => [t.A.toNat, t.P.toNat, t.PC.toNat, t.cycles]) =
      some [0x9A, 0xA8, 0x8002, 1] := by decide

/-- 95_test_vectors.md V-G13. -/
theorem test_V_G13_SBC :
    see (step ({ start 0x8000 [(0x8000, 0xE9), (0x8001, 0x01)] with A := 0x00, P := 0x20 })) (fun t => [t.A.toNat, t.P.toNat, t.PC.toNat, t.cycles]) =
      some [0xFE, 0xA0, 0x8002, 1] := by decide

/-- 95_test_vectors.md V-G14. -/
theorem test_V_G14_SBC :
    see (step ({ start 0x8000 [(0x8000, 0xE9), (0x8001, 0x01)] with A := 0x80, P := 0x21 })) (fun t => [t.A.toNat, t.P.toNat, t.PC.toNat, t.cycles]) =
      some [0x7F, 0x61, 0x8002, 1] := by decide

/-- 95_test_vectors.md V-A19. -/
theorem test_V_A19_CMP :
    see (step ({ start 0x8000 [(0x2100, 0x10), (0x8000, 0xDD), (0x8001, 0x01), (0x8002, 0x20)] with X := 0xFF, A := 0x10 })) (fun t => [t.A.toNat, t.X.toNat, t.P.toNat, t.PC.toNat, t.cycles]) =
      some [0x10, 0xFF, 0x23, 0x8003, 4] := by decide

/-- 95_test_vectors.md V-G19. -/
theorem test_V_G19_CMP :
    see (step ({ start 0x8000 [(0x8000, 0xC9), (0x8001, 0x11)] with A := 0x10, P := 0x61 })) (fun t => [t.A.toNat, t.P.toNat, t.PC.toNat, t.cycles]) =
      some [0x10, 0xE0, 0x8002, 1] := by decide

/-- 95_test_vectors.md V-G21. -/
theorem test_V_G21_CPX :
    see (step ({ start 0x8000 [(0x8000, 0xE0), (0x8001, 0x80)] with X := 0x7F })) (fun t => [t.X.toNat, t.P.toNat, t.PC.toNat, t.cycles]) =
      some [0x7F, 0xA0, 0x8002, 1] := by decide

/-- 95_test_vectors.md V-G22. -/
theorem test_V_G22_CPY :
    see (step ({ start 0x8000 [(0x8000, 0xC0)] with Y := 0x80 })) (fun t => [t.Y.toNat, t.P.toNat, t.PC.toNat, t.cycles]) =
      some [0x80, 0xA1, 0x8002, 1] := by decide

/-- 95_test_vectors.md V-H2. -/
theorem test_V_H2_ASL :
    see (step ({ start 0x8000 [(0x8000, 0x0A)] with A := 0x41, P := 0x21 })) (fun t => [t.A.toNat, t.P.toNat, t.PC.toNat, t.cycles]) =
      some [0x82, 0xA0, 0x8001, 1] := by decide

/-- 95_test_vectors.md V-A17. -/
theorem test_V_A17_ASL :
    see (step ({ start 0x8000 [(0x1300, 0x81), (0x8000, 0x1E), (0x8001, 0xFF), (0x8002, 0x12)] with X := 0x01 })) (fun t => [t.X.toNat, t.P.toNat, t.PC.toNat, (t.memRead 0x1300).toNat, t.cycles]) =
      some [0x01, 0x21, 0x8003, 0x02, 6] := by decide

/-- 95_test_vectors.md V-H4. -/
theorem test_V_H4_LSR :
    see (step ({ start 0x8000 [(0x8000, 0x4A)] with A := 0x80, P := 0xA1 })) (fun t => [t.A.toNat, t.P.toNat, t.PC.toNat, t.cycles]) =
      some [0x40, 0x20, 0x8001, 1] := by decide

/-- 95_test_vectors.md V-H10. -/
theorem test_V_H10_LSR :
    see (step (start 0x8000 [(0x0010, 0x01), (0x8000, 0x46), (0x8001, 0x10)])) (fun t => [t.P.toNat, t.PC.toNat, (t.memRead 0x0010).toNat, t.cycles]) =
      some [0x23, 0x8002, 0x00, 4] := by decide

/-- 95_test_vectors.md V-H5. -/
theorem test_V_H5_ROL :
    see (step ({ start 0x8000 [(0x8000, 0x2A)] with A := 0x80, P := 0x21 })) (fun t => [t.A.toNat, t.P.toNat, t.PC.toNat, t.cycles]) =
      some [0x01, 0x21, 0x8001, 1] := by decide

/-- 95_test_vectors.md V-H11. -/
theorem test_V_H11_ROL :
    see (step ({ start 0x8000 [(0x0200, 0x7F), (0x8000, 0x2E), (0x8002, 0x02)] with P := 0x21 })) (fun t => [t.P.toNat, t.PC.toNat, (t.memRead 0x0200).toNat, t.cycles]) =
      some [0xA0, 0x8003, 0xFF, 5] := by decide

/-- 95_test_vectors.md V-H8. -/
theorem test_V_H8_ROR :
    see (step ({ start 0x8000 [(0x8000, 0x6A)] with A := 0x00, P := 0x21 })) (fun t => [t.A.toNat, t.P.toNat, t.PC.toNat, t.cycles]) =
      some [0x80, 0xA0, 0x8001, 1] := by decide

/-- 95_test_vectors.md V-H12. -/
theorem test_V_H12_ROR :
    see (step ({ start 0x8000 [(0x0005, 0x02), (0x8000, 0x76), (0x8001, 0x10)] with X := 0xF5, P := 0x21 })) (fun t => [t.X.toNat, t.P.toNat, t.PC.toNat, (t.memRead 0x0005).toNat, t.cycles]) =
      some [0xF5, 0xA0, 0x8002, 0x81, 5] := by decide

/-- 95_test_vectors.md V-H13. -/
theorem test_V_H13_INC :
    see (step (start 0x8000 [(0x0010, 0xFF), (0x8000, 0xE6), (0x8001, 0x10)])) (fun t => [t.P.toNat, t.PC.toNat, (t.memRead 0x0010).toNat, t.cycles]) =
      some [0x22, 0x8002, 0x00, 4] := by decide

/-- 95_test_vectors.md V-H14. -/
theorem test_V_H14_DEC :
    see (step (start 0x8000 [(0x8000, 0xC6), (0x8001, 0x10)])) (fun t => [t.P.toNat, t.PC.toNat, (t.memRead 0x0010).toNat, t.cycles]) =
      some [0xA0, 0x8002, 0xFF, 4] := by decide

/-- 95_test_vectors.md V-H16. -/
theorem test_V_H16_DEC :
    see (step ({ start 0x8000 [(0x0201, 0x01), (0x8000, 0xDE), (0x8002, 0x02)] with X := 0x01 })) (fun t => [t.X.toNat, t.P.toNat, t.PC.toNat, (t.memRead 0x0201).toNat, t.cycles]) =
      some [0x01, 0x22, 0x8003, 0x00, 6] := by decide

/-- 95_test_vectors.md V-H17. -/
theorem test_V_H17_INX :
    see (step ({ start 0x8000 [(0x8000, 0xE8)] with X := 0xFF })) (fun t => [t.X.toNat, t.P.toNat, t.PC.toNat, t.cycles]) =
      some [0x00, 0x22, 0x8001, 1] := by decide

/-- 95_test_vectors.md V-H18. -/
theorem test_V_H18_INY :
    see (step ({ start 0x8000 [(0x8000, 0xC8)] with Y := 0x7F })) (fun t => [t.Y.toNat, t.P.toNat, t.PC.toNat, t.cycles]) =
      some [0x80, 0xA0, 0x8001, 1] := by decide

/-- 95_test_vectors.md V-H19. -/
theorem test_V_H19_DEX :
    see (step ({ start 0x8000 [(0x8000, 0xCA)] with X := 0x00 })) (fun t => [t.X.toNat, t.P.toNat, t.PC.toNat, t.cycles]) =
      some [0xFF, 0xA0, 0x8001, 1] := by decide

/-- 95_test_vectors.md V-H20. -/
theorem test_V_H20_DEY :
    see (step ({ start 0x8000 [(0x8000, 0x88)] with Y := 0x01 })) (fun t => [t.Y.toNat, t.P.toNat, t.PC.toNat, t.cycles]) =
      some [0x00, 0x22, 0x8001, 1] := by decide

/-- 95_test_vectors.md V-B7. -/
theorem test_V_B7_BCC :
    see (step (start 0x0010 [(0x0010, 0x90), (0x0011, 0x80)])) (fun t => [t.P.toNat, t.PC.toNat, t.cycles]) =
      some [0x20, 0xFF92, 3] := by decide

/-- 95_test_vectors.md V-B8. -/
theorem test_V_B8_BCS :
    see (step ({ start 0x8000 [(0x8000, 0xB0), (0x8001, 0x10)] with P := 0x21 })) (fun t => [t.P.toNat, t.PC.toNat, t.cycles]) =
      some [0x21, 0x8012, 2] := by decide

/-- 95_test_vectors.md V-B5. -/
theorem test_V_B5_BEQ :
    see (step ({ start 0x8080 [(0x8080, 0xF0), (0x8081, 0x7F)] with P := 0x22 })) (fun t => [t.P.toNat, t.PC.toNat, t.cycles]) =
      some [0x22, 0x8101, 3] := by decide

/-- 95_test_vectors.md V-B4. -/
theorem test_V_B4_BNE :
    see (step (start 0x8002 [(0x8002, 0xD0), (0x8003, 0xFB)])) (fun t => [t.P.toNat, t.PC.toNat, t.cycles]) =
      some [0x20, 0x7FFF, 3] := by decide

/-- 95_test_vectors.md V-B2. -/
theorem test_V_B2_BNE :
    see (step ({ start 0x8000 [(0x8000, 0xD0), (0x8001, 0x05)] with P := 0x22 })) (fun t => [t.P.toNat, t.PC.toNat, t.cycles]) =
      some [0x22, 0x8002, 1] := by decide

/-- 95_test_vectors.md V-B9. -/
theorem test_V_B9_BMI :
    see (step ({ start 0x8000 [(0x8000, 0x30), (0x8001, 0x10)] with P := 0xA0 })) (fun t => [t.P.toNat, t.PC.toNat, t.cycles]) =
      some [0xA0, 0x8012, 2] := by decide

/-- 95_test_vectors.md V-B10. -/
theorem test_V_B10_BPL :
    see (step ({ start 0x8000 [(0x8000, 0x10), (0x8001, 0x10)] with P := 0xA0 })) (fun t => [t.P.toNat, t.PC.toNat, t.cycles]) =
      some [0xA0, 0x8002, 1] := by decide

/-- 95_test_vectors.md V-B11. -/
theorem test_V_B11_BVC :
    see (step (start 0x8000 [(0x8000, 0x50), (0x8001, 0x10)])) (fun t => [t.P.toNat, t.PC.toNat, t.cycles]) =
      some [0x20, 0x8012, 2] := by decide

/-- 95_test_vectors.md V-B12. -/
theorem test_V_B12_BVS :
    see (step (start 0x8000 [(0x8000, 0x70), (0x8001, 0x10)])) (fun t => [t.P.toNat, t.PC.toNat, t.cycles]) =
      some [0x20, 0x8002, 1] := by decide

/-- 95_test_vectors.md V-A14. -/
theorem test_V_A14_JMP :
    see (step (start 0x8000 [(0x3000, 0x12), (0x30FF, 0x80), (0x3100, 0x99), (0x8000, 0x6C), (0x8001, 0xFF), (0x8002, 0x30)])) (fun t => [t.P.toNat, t.PC.toNat, t.cycles]) =
      some [0x20, 0x1280, 4] := by decide

/-- 95_test_vectors.md V-B15. -/
theorem test_V_B15_JMP :
    see (step (start 0x8000 [(0x8000, 0x4C), (0x8001, 0x34), (0x8002, 0x12)])) (fun t => [t.P.toNat, t.PC.toNat, t.cycles]) =
      some [0x20, 0x1234, 2] := by decide

/-- 95_test_vectors.md V-B20. -/
theorem test_V_B20_JSR :
    see (step ({ start 0x8000 [(0x8000, 0x20), (0x8002, 0x90)] with SP := 0x00 })) (fun t => [t.SP.toNat, t.P.toNat, t.PC.toNat, (t.memRead 0x0100).toNat, (t.memRead 0x01FF).toNat, t.cycles]) =
      some [0xFE, 0x20, 0x9000, 0x80, 0x02, 5] := by decide

/-- 95_test_vectors.md V-B18. -/
theorem test_V_B18_JSR :
    see (step (start 0x80FE [(0x80FE, 0x20), (0x8100, 0x90)])) (fun t => [t.SP.toNat, t.P.toNat, t.PC.toNat, (t.memRead 0x01FD).toNat, (t.memRead 0x01FC).toNat, t.cycles]) =
      some [0xFB, 0x20, 0x9000, 0x81, 0x00, 5] := by decide

/-- 95_test_vectors.md V-B19. -/
theorem test_V_B19_RTS :
    see (step ({ start 0x8000 [(0x0100, 0xFF), (0x0101, 0x12), (0x8000, 0x60)] with SP := 0xFF })) (fun t => [t.SP.toNat, t.P.toNat, t.PC.toNat, t.cycles]) =
      some [0x01, 0x20, 0x1300, 5] := by decide

/-- 95_test_vectors.md V-B17. -/
theorem test_V_B17_RTS :
    see (step ({ start 0x8000 [(0x01FC, 0x02), (0x01FD, 0x80), (0x8000, 0x60)] with SP := 0xFB })) (fun t => [t.SP.toNat, t.P.toNat, t.PC.toNat, t.cycles]) =
      some [0xFD, 0x20, 0x8003, 5] := by decide

/-- 95_test_vectors.md V-K2. -/
theorem test_V_K2_PHA :
    see (step ({ start 0x8000 [(0x8000, 0x48)] with A := 0x42, SP := 0x00 })) (fun t => [t.A.toNat, t.SP.toNat, t.P.toNat, t.PC.toNat, (t.memRead 0x0100).toNat, t.cycles]) =
      some [0x42, 0xFF, 0x20, 0x8001, 0x42, 2] := by decide

/-- 95_test_vectors.md V-K4. -/
theorem test_V_K4_PHP :
    see (step ({ start 0x8000 [(0x8000, 0x08)] with P := 0xEF })) (fun t => [t.SP.toNat, t.P.toNat, t.PC.toNat, (t.memRead 0x01FD).toNat, t.cycles]) =
      some [0xFC, 0xEF, 0x8001, 0xFF, 2] := by decide

/-- 95_test_vectors.md V-K6. -/
theorem test_V_K6_PLA :
    see (step ({ start 0x8000 [(0x0100, 0x80), (0x8000, 0x68)] with SP := 0xFF })) (fun t => [t.A.toNat, t.SP.toNat, t.P.toNat, t.PC.toNat, t.cycles]) =
      some [0x80, 0x00, 0xA0, 0x8001, 3] := by decide

/-- 95_test_vectors.md V-K9. -/
theorem test_V_K9_PLP :
    see (step ({ start 0x8000 [(0x01FD, 0xFB), (0x8000, 0x28)] with SP := 0xFC, P := 0x24 })) (fun t => [t.SP.toNat, t.P.toNat, t.PC.toNat, t.cycles]) =
      some [0xFD, 0xFB, 0x8001, 3] := by decide

/-- 95_test_vectors.md V-K7. -/
theorem test_V_K7_PLP :
    see (step ({ start 0x8000 [(0x01FD, 0xC3), (0x8000, 0x28)] with SP := 0xFC })) (fun t => [t.SP.toNat, t.P.toNat, t.PC.toNat, t.cycles]) =
      some [0xFD, 0xE3, 0x8001, 3] := by decide

/-- 95_test_vectors.md V-K10. -/
theorem test_V_K10_CLC :
    see (step ({ start 0x8000 [(0x8000, 0x18)] with P := 0xFF })) (fun t => [t.P.toNat, t.PC.toNat, t.cycles]) =
      some [0xFE, 0x8001, 1] := by decide

/-- 95_test_vectors.md V-K11. -/
theorem test_V_K11_CLD :
    see (step ({ start 0x8000 [(0x8000, 0xD8)] with P := 0xFF })) (fun t => [t.P.toNat, t.PC.toNat, t.cycles]) =
      some [0xF7, 0x8001, 1] := by decide

/-- 95_test_vectors.md V-K12. -/
theorem test_V_K12_CLI :
    see (step ({ start 0x8000 [(0x8000, 0x58)] with P := 0xFF })) (fun t => [t.P.toNat, t.PC.toNat, t.cycles]) =
      some [0xFB, 0x8001, 1] := by decide

/-- 95_test_vectors.md V-K13. -/
theorem test_V_K13_CLV :
    see (step ({ start 0x8000 [(0x8000, 0xB8)] with P := 0xFF })) (fun t => [t.P.toNat, t.PC.toNat, t.cycles]) =
      some [0xBF, 0x8001, 1] := by decide

/-- 95_test_vectors.md V-K14. -/
theorem test_V_K14_SEC :
    see (step (start 0x8000 [(0x8000, 0x38)])) (fun t => [t.P.toNat, t.PC.toNat, t.cycles]) =
      some [0x21, 0x8001, 1] := by decide

/-- 95_test_vectors.md V-K15. -/
theorem test_V_K15_SED :
    see (step (start 0x8000 [(0x8000, 0xF8)])) (fun t => [t.P.toNat, t.PC.toNat, t.cycles]) =
      some [0x28, 0x8001, 1] := by decide

/-- 95_test_vectors.md V-K16. -/
theorem test_V_K16_SEI :
    see (step (start 0x8000 [(0x8000, 0x78)])) (fun t => [t.P.toNat, t.PC.toNat, t.cycles]) =
      some [0x24, 0x8001, 1] := by decide

/-- 95_test_vectors.md V-K18. -/
theorem test_V_K18_BRK :
    see (step ({ start 0x12FF [(0xFFFE, 0x34), (0xFFFF, 0x12)] with P := 0xE7, SP := 0x01 })) (fun t => [t.SP.toNat, t.P.toNat, t.PC.toNat, (t.memRead 0x0101).toNat, (t.memRead 0x0100).toNat, (t.memRead 0x01FF).toNat, t.cycles]) =
      some [0xFE, 0xE7, 0x1234, 0x13, 0x01, 0xF7, 6] := by decide

/-- 95_test_vectors.md V-K17. -/
theorem test_V_K17_BRK :
    see (step (start 0x8000 [(0x8001, 0xFF), (0xFFFF, 0x90)])) (fun t => [t.SP.toNat, t.P.toNat, t.PC.toNat, (t.memRead 0x01FD).toNat, (t.memRead 0x01FC).toNat, (t.memRead 0x01FB).toNat, t.cycles]) =
      some [0xFA, 0x24, 0x9000, 0x80, 0x02, 0x34, 6] := by decide

/-- 95_test_vectors.md V-K20. -/
theorem test_V_K20_RTI :
    see (step ({ start 0x9000 [(0x01FB, 0xFF), (0x01FD, 0xC0), (0x9000, 0x40)] with SP := 0xFA, P := 0x24 })) (fun t => [t.SP.toNat, t.P.toNat, t.PC.toNat, t.cycles]) =
      some [0xFD, 0xEF, 0xC000, 5] := by decide

/-- 95_test_vectors.md V-K21. -/
theorem test_V_K21_RTI :
    see (step ({ start 0x9000 [(0x0100, 0xCD), (0x0101, 0xAB), (0x01FF, 0x01), (0x9000, 0x40)] with SP := 0xFE })) (fun t => [t.SP.toNat, t.P.toNat, t.PC.toNat, t.cycles]) =
      some [0x01, 0x21, 0xABCD, 5] := by decide

/-- 95_test_vectors.md V-K22. -/
theorem test_V_K22_NOP :
    see (step ({ start 0x8000 [(0x8000, 0xEA)] with P := 0xA5, A := 0x11 })) (fun t => [t.A.toNat, t.P.toNat, t.PC.toNat, t.cycles]) =
      some [0x11, 0xA5, 0x8001, 1] := by decide

/-- 95_test_vectors.md V-U1C. -/
theorem test_V_U1C_NOP :
    see (step ({ start 0x8000 [(0x8000, 0x1C), (0x8001, 0x55), (0x8002, 0xAA)] with A := 0x11, X := 0x22, Y := 0x33, P := 0x65 })) (fun t => [t.A.toNat, t.X.toNat, t.Y.toNat, t.P.toNat, t.PC.toNat, t.cycles]) =
      some [0x11, 0x22, 0x33, 0x65, 0x8001, 3] := by decide

/-- 95_test_vectors.md V-U80. -/
theorem test_V_U80_NOP :
    see (step ({ start 0x8000 [(0x8000, 0x80), (0x8001, 0x55), (0x8002, 0xAA)] with A := 0x11, X := 0x22, Y := 0x33, P := 0x65 })) (fun t => [t.A.toNat, t.X.toNat, t.Y.toNat, t.P.toNat, t.PC.toNat, t.cycles]) =
      some [0x11, 0x22, 0x33, 0x65, 0x8001, 1] := by decide

/-- 95_test_vectors.md V-UA7. -/
theorem test_V_UA7_XXX :
    see (step ({ start 0x8000 [(0x8000, 0xA7), (0x8001, 0x55), (0x8002, 0xAA)] with A := 0x11, X := 0x22, Y := 0x33, P := 0x65 })) (fun t => [t.A.toNat, t.X.toNat, t.Y.toNat, t.P.toNat, t.PC.toNat, t.cycles]) =
      some [0x11, 0x22, 0x33, 0x65, 0x8001, 2] := by decide

/-- 95_test_vectors.md V-UFF. -/
theorem test_V_UFF_XXX :
    see (step ({ start 0x8000 [(0x8000, 0xFF), (0x8001, 0x55), (0x8002, 0xAA)] with A := 0x11, X := 0x22, Y := 0x33, P := 0x65 })) (fun t => [t.A.toNat, t.X.toNat, t.Y.toNat, t.P.toNat, t.PC.toNat, t.cycles]) =
      some [0x11, 0x22, 0x33, 0x65, 0x8001, 6] := by decide

/-! ## Witnesses: states and operands that meet the hypotheses of the obligations. -/

/-- What an instruction leaves, as its outcome. -/
theorem ran (i : Instr) (s : State) : exec i s = .next (after i s) := exec_next i s

/-- Registers, flags and memory set so that every flag, every register and every mode can show something. -/
def busy : State :=
  { start 0xFFFE [(0x0000, 0x12), (0x0001, 0x80), (0x0010, 0x34), (0x0100, 0x5A), (0x01FF, 0xA5), (0x30FF, 0x80),
      (0xFFFC, 0x34), (0xFFFD, 0x12)] with
    A := 0x80, X := 0xFF, Y := 0x01, SP := 0x00, P := 0xFF }

/-- Everything 0 but `U` and the stack pointer. -/
def quiet : State := { start 0x8000 [] with SP := 0xFF }

theorem witness_DecodedBytesAreTheEncoding :
    decode [0x6C, 0xFF, 0x30, 0xEA] = .ok (.jmpInd 0x30FF, [0xEA]) ∧ decode [0x00] = .ok (.brk, []) := ⟨rfl, rfl⟩

theorem witness_EveryOpcodeByteDecodes : (Instr.ldaImm 0x00).opcode = (Instr.ldaImm 0xFF).opcode := rfl

theorem witness_LengthFollowsFromTheOpcodeByte :
    decode [0xA5, 0x10] = .ok (.ldaZp0 0x10, []) ∧ (Instr.jsr 0x0000).opcode = (Instr.jsr 0xFFFF).opcode ∧
    Instr.nopFC.op = .NOP ∧ Instr.xxx02.op = .XXX := ⟨rfl, rfl, rfl, rfl⟩

/-- The instruction lies across the end of the address space. -/
theorem witness_StepRunsTheDecodedInstruction :
    ∃ (s : State) (i : Instr) (t : State), s.PC = 0xFFFF ∧ i = .ldaAbs 0x1234 ∧ s.cycles = 0 ∧
      decode (s.bytesFrom s.PC i.length) = .ok (i, []) ∧ exec i s = .next t :=
  ⟨start 0xFFFF [(0x0000, 0x34), (0x0001, 0x12), (0xFFFF, 0xAD)], .ldaAbs 0x1234, _, by decide, rfl, by decide, rfl, ran _ _⟩

theorem witness_FetchReadsWhatWasStored :
    ∃ t, exec (.jsr 0x1234) ((busy.placeBytes busy.PC (encode (.jsr 0x1234))).setCycles 0) = .next t := ⟨_, ran _ _⟩

theorem witness_BusyClockOnlyCounts : State.reset.cycles ≠ 0 ∧ ({ start 0 [] with cycles := 1 } : State).cycles ≠ 0 := by
  decide

theorem witness_EffectsComeFirstThenTheCountdown :
    ∃ t, quiet.cycles = 0 ∧ exec quiet.fetchInstr quiet = .next t ∧ t.cycles = 7 ∧ (1 ≤ 1 ∧ 1 ≤ t.cycles) ∧
      (1 ≤ 7 ∧ 7 ≤ t.cycles) :=
  ⟨_, by decide, ran _ _, by decide, by decide, by decide⟩

/-- A page cross that costs a cycle, one that does not because the operation does not signal, and a branch. -/
theorem witness_InstructionLengthBounds :
    (∃ t, exec (.ldaAbx 0x1201) busy = .next t ∧ (Instr.ldaAbx 0x1201).mode.kind ≠ .REL ∧ t.cycles = 5) ∧
    (∃ t, exec (.staAbx 0x1201) busy = .next t ∧ (Instr.staAbx 0x1201).mode.kind ≠ .REL ∧ t.cycles = 5) ∧
    ∃ t, exec (.bcs 0x80) busy = .next t ∧ t.cycles = 4 :=
  ⟨⟨_, ran _ _, by decide, by decide⟩, ⟨_, ran _ _, by decide, by decide⟩, ⟨_, ran _ _, by decide⟩⟩

/-- One instruction for each mode, at the end of its range. -/
theorem witness_AddressingModesLeaveTheirAddress :
    (∃ t, exec .aslImp busy = .next t ∧ Instr.aslImp.mode = .imp) ∧
    (∃ t, exec (.ldaImm 0xFF) busy = .next t ∧ (Instr.ldaImm 0xFF).mode = .imm 0xFF) ∧
    (∃ t, exec (.ldaZp0 0xFF) busy = .next t ∧ (Instr.ldaZp0 0xFF).mode = .zp0 0xFF) ∧
    (∃ t, exec (.ldaZpx 0xFF) busy = .next t ∧ (Instr.ldaZpx 0xFF).mode = .zpx 0xFF ∧ t.addrAbs = 0x00FE) ∧
    (∃ t, exec (.ldxZpy 0xFF) busy = .next t ∧ (Instr.ldxZpy 0xFF).mode = .zpy 0xFF ∧ t.addrAbs = 0x0000) ∧
    (∃ t, exec (.bne 0x80) busy = .next t ∧ (Instr.bne 0x80).mode = .rel 0x80) ∧
    (∃ t, exec (.ldaAbs 0xFFFF) busy = .next t ∧ (Instr.ldaAbs 0xFFFF).mode = .abs 0xFFFF) ∧
    (∃ t, exec (.ldaAbx 0xFFFF) busy = .next t ∧ (Instr.ldaAbx 0xFFFF).mode = .abx 0xFFFF ∧ t.addrAbs = 0x00FE) ∧
    (∃ t, exec (.ldaAby 0xFFFF) busy = .next t ∧ (Instr.ldaAby 0xFFFF).mode = .aby 0xFFFF ∧ t.addrAbs = 0x0000) ∧
    (∃ t, exec (.jmpInd 0x30FF) busy = .next t ∧ (Instr.jmpInd 0x30FF).mode = .ind 0x30FF ∧ t.addrAbs = 0x0080) ∧
    (∃ t, exec (.jmpInd 0x0000) busy = .next t ∧ (Instr.jmpInd 0x0000).mode = .ind 0x0000 ∧ t.addrAbs = 0x8012) ∧
    (∃ t, exec (.ldaIzx 0x01) busy = .next t ∧ (Instr.ldaIzx 0x01).mode = .izx 0x01 ∧ t.addrAbs = 0x8012) ∧
    ∃ t, exec (.ldaIzy 0xFF) busy = .next t ∧ (Instr.ldaIzy 0xFF).mode = .izy 0xFF ∧ t.addrAbs = 0x1201 :=
  ⟨⟨_, ran _ _, rfl⟩, ⟨_, ran _ _, rfl⟩, ⟨_, ran _ _, rfl⟩, ⟨_, ran _ _, rfl, by decide⟩, ⟨_, ran _ _, rfl, by decide⟩,
    ⟨_, ran _ _, rfl⟩, ⟨_, ran _ _, rfl⟩, ⟨_, ran _ _, rfl, by decide⟩, ⟨_, ran _ _, rfl, by decide⟩,
    ⟨_, ran _ _, rfl, by decide⟩, ⟨_, ran _ _, rfl, by decide⟩, ⟨_, ran _ _, rfl, by decide⟩, ⟨_, ran _ _, rfl, by decide⟩⟩

theorem witness_PageCrossSignalIsTheCarryOfTheLowByte :
    (Mode.izx 0xFF).kind ∉ [ModeKind.ABX, .ABY, .IZY] ∧ (Mode.ind 0x30FF).kind ∉ [ModeKind.ABX, .ABY, .IZY] := by decide

/-- The operand byte lies at the start of the address space. -/
theorem witness_ImmediateOperandIsTheByteAtItsAddress :
    (start 0xFFFF [(0x0000, 0x42), (0xFFFF, 0xA9)]).fetchInstr.mode = .imm 0x42 := by decide

theorem witness_LoadsCopyTheOperand :
    (Instr.ldaIzy 0xFF).op = .LDA ∧ (Instr.ldxZpy 0xFF).op = .LDX ∧ (Instr.ldyAbx 0xFFFF).op = .LDY := ⟨rfl, rfl, rfl⟩

theorem witness_StoresWriteOneByte :
    (Instr.staIzx 0xFF).op = .STA ∧ (Instr.stxZpy 0xFF).op = .STX ∧ (Instr.styAbs 0xFFFF).op = .STY := ⟨rfl, rfl, rfl⟩

theorem witness_LogicCombinesAccumulatorAndOperand :
    (Instr.andImm 0x0F).op = .AND ∧ (Instr.oraAby 0xFFFF).op = .ORA ∧ (Instr.eorIzx 0xFF).op = .EOR := ⟨rfl, rfl, rfl⟩

theorem witness_BitTestsTheOperand : (Instr.bitZp0 0xFF).op = .BIT ∧ (Instr.bitAbs 0x0000).op = .BIT := ⟨rfl, rfl⟩

theorem witness_AddWithCarry : (Instr.adcImm 0xFF).op = .ADC ∧ (Instr.adcIzy 0xFF).op = .ADC := ⟨rfl, rfl⟩

theorem witness_SubtractWithBorrow : (Instr.sbcImm 0x00).op = .SBC ∧ (Instr.sbcAbx 0xFFFF).op = .SBC := ⟨rfl, rfl⟩

theorem witness_ComparesSetCarryZeroNegative :
    (Instr.cmpImm 0xFF).op = .CMP ∧ (Instr.cpxZp0 0x00).op = .CPX ∧ (Instr.cpyAbs 0xFFFF).op = .CPY := ⟨rfl, rfl, rfl⟩

theorem witness_ShiftsMoveOneBit : Instr.aslImp.op = .ASL ∧ (Instr.lsrAbx 0xFFFF).op = .LSR := ⟨rfl, rfl⟩

theorem witness_RotatesGoThroughCarry : (Instr.rolZpx 0xFF).op = .ROL ∧ Instr.rorImp.op = .ROR := ⟨rfl, rfl⟩

theorem witness_IncrementAndDecrementMemory : (Instr.incZpx 0xFF).op = .INC ∧ (Instr.decAbs 0xFFFF).op = .DEC := ⟨rfl, rfl⟩

/-- For each of the four flags a state in which a branch on it is taken and one in which it is not. -/
theorem witness_BranchesTestTheirFlag :
    busy.flag .C = true ∧ busy.flag .Z = true ∧ busy.flag .N = true ∧ busy.flag .V = true ∧
    quiet.flag .C = false ∧ quiet.flag .Z = false ∧ quiet.flag .N = false ∧ quiet.flag .V = false := by decide

/-- With the stack pointer at 0x00 the return address lies at 0x0100 and 0x01FF. -/
theorem witness_StackPairsRestore :
    (∃ t u, exec (.jsr 0x1234) busy = .next t ∧ u = t ∧ u.SP = t.SP ∧
      u.memRead (stackAddr busy.SP) = t.memRead (stackAddr busy.SP) ∧
      u.memRead (stackAddr (busy.SP - 1)) = t.memRead (stackAddr (busy.SP - 1)) ∧ t.SP = 0xFE) ∧
    ∃ t u, exec .pha busy = .next t ∧ u = t ∧ u.SP = t.SP ∧
      u.memRead (stackAddr busy.SP) = t.memRead (stackAddr busy.SP) ∧ t.SP = 0xFF :=
  ⟨⟨_, _, ran _ _, rfl, rfl, rfl, rfl, by decide⟩, ⟨_, _, ran _ _, rfl, rfl, rfl, by decide⟩⟩

theorem witness_FlagInstructionsWriteOneFlag :
    ((.clc, .C, false) : Instr × Flag × Bool) ∈
      ([(.clc, .C, false), (.cld, .D, false), (.cli, .I, false), (.clv, .V, false), (.sec, .C, true), (.sed, .D, true),
        (.sei, .I, true)] : List (Instr × Flag × Bool)) := by decide

theorem witness_NoOperationsDoNothing : Instr.nop.op = .NOP ∧ Instr.nop1C.op = .NOP ∧ Instr.xxxFF.op = .XXX := ⟨rfl, rfl, rfl⟩

theorem witness_IrqEventIsMaskedByI : busy.flag .I = true ∧ quiet.flag .I = false := by decide

theorem witness_ResetIsIdempotent : ∃ t, handle .reset busy = .next t := ⟨_, rfl⟩

theorem witness_MaskedIrqLeavesNoTrace : busy.flag .I = true ∧ ∃ t, handle .nmi busy = .next t := ⟨by decide, _, rfl⟩

theorem witness_ResetCountsDownEightEvents :
    ∃ t, handle .reset busy = .next t ∧ 0 ≤ 8 ∧ 8 ≤ 8 ∧
      ∃ u, exec t.fetchInstr ((t.setCycles 0).setClockCount 8) = .next u :=
  ⟨_, rfl, by decide, by decide, _, ran _ _⟩

/-- A frame of each of the three traps, the stack wrapping in the first and the last. -/
theorem witness_ReturnFromUnmodifiedFrame :
    (∃ t u : State, exec .brk busy = .next t ∧ busy.PC + 2 = 0x0000 ∧ u.SP = t.SP ∧ u.M = t.M ∧ t.SP = 0xFD) ∧
    (∃ t u : State, handle .irq quiet = .next t ∧ quiet.flag .I = false ∧ u.SP = t.SP ∧ u.M = t.M) ∧
    ∃ t u : State, handle .nmi busy = .next t ∧ u.SP = t.SP ∧ u.M = t.M ∧ t.SP = 0xFD :=
  ⟨⟨_, _, ran _ _, by decide, rfl, rfl, by decide⟩, ⟨_, _, rfl, by decide, rfl, rfl⟩, ⟨_, _, rfl, rfl, rfl, by decide⟩⟩

theorem witness_NmiAndIrqTakeEffectInTheOrderIssued : quiet.flag .I = false := by decide

theorem witness_MemoryReadAfterWrite : 65536 ≤ 65536 ∧ ∃ t, handle .reset busy = .next t := ⟨by decide, _, rfl⟩

theorem witness_CanonicalMemoryIsKeptAndUnique :
    busy.M.wf ∧ ∀ a : Word, busy.M.busRead a.toNat false = busy.M.busRead a.toNat false := ⟨by decide, fun _ => rfl⟩

theorem witness_SixteenBitQuantitiesAreLittleEndian :
    (Instr.ldaAbs 0x1234).mode ∈ [Mode.abs 0x1234, .abx 0x1234, .aby 0x1234, .ind 0x1234] ∧
    (start 0xFFFF [(0x0000, 0x34), (0x0001, 0x12), (0xFFFF, 0x6C)]).fetchInstr.mode ∈
      [Mode.abs 0x1234, .abx 0x1234, .aby 0x1234, .ind 0x1234] ∧
    (∃ t, handle .reset busy = .next t) ∧ (∃ t, handle .nmi busy = .next t) ∧ (∃ t, exec .brk busy = .next t) ∧
    (∃ t, handle .irq quiet = .next t ∧ quiet.flag .I = false) ∧ lo 0x30FE ≠ 0xFF ∧ quiet.Y = 0 :=
  ⟨by decide, by decide, ⟨_, rfl⟩, ⟨_, rfl⟩, ⟨_, ran _ _⟩, ⟨_, rfl, by decide⟩, by decide, by decide⟩

/-- Each register and `PC` changed by one of its writers. -/
theorem witness_RegistersAreWrittenOnlyByTheirInstructions :
    (∃ t, exec (.ldaImm 0x01) busy = .next t ∧ t.A ≠ busy.A) ∧ (∃ t, exec .rolImp busy = .next t ∧ t.A ≠ busy.A) ∧
    (∃ t, exec .inx busy = .next t ∧ t.X ≠ busy.X) ∧ (∃ t, exec .tay busy = .next t ∧ t.Y ≠ busy.Y) ∧
    (∃ t, exec .pha busy = .next t ∧ t.SP ≠ busy.SP) ∧ ∃ t, exec (.jmpAbs 0x1234) busy = .next t ∧ t.PC ≠ nextPC (.jmpAbs 0x1234) busy :=
  ⟨⟨_, ran _ _, by decide⟩, ⟨_, ran _ _, by decide⟩, ⟨_, ran _ _, by decide⟩, ⟨_, ran _ _, by decide⟩,
    ⟨_, ran _ _, by decide⟩, ⟨_, ran _ _, by decide⟩⟩

/-- Each flag changed by one of its writers. -/
theorem witness_FlagsAreWrittenOnlyByTheirInstructions :
    (∃ t, exec .clc busy = .next t ∧ t.flag .C ≠ busy.flag .C) ∧
    (∃ t, exec (.ldaImm 0x80) busy = .next t ∧ t.flag .Z ≠ busy.flag .Z) ∧
    (∃ t, exec (.ldaImm 0x00) busy = .next t ∧ t.flag .N ≠ busy.flag .N) ∧
    (∃ t, exec .brk quiet = .next t ∧ t.flag .I ≠ quiet.flag .I) ∧
    (∃ t, exec .sed quiet = .next t ∧ t.flag .D ≠ quiet.flag .D) ∧
    ∃ t, exec (.bitZp0 0x10) busy = .next t ∧ t.flag .V ≠ busy.flag .V :=
  ⟨⟨_, ran _ _, by decide⟩, ⟨_, ran _ _, by decide⟩, ⟨_, ran _ _, by decide⟩, ⟨_, ran _ _, by decide⟩,
    ⟨_, ran _ _, by decide⟩, ⟨_, ran _ _, by decide⟩⟩

theorem witness_BreakFlagRisesOnlyByPLP :
    (∃ t, exec .plp { quiet with SP := 0x00, M := [(0x0101, 0xFF)] } = .next t ∧ t.flag .B = true) ∧
    (∃ t, exec .nop busy = .next t ∧ t.flag .B = true) ∧ (∃ t, handle .reset busy = .next t) ∧
    (∃ t, handle .nmi busy = .next t) ∧ ∃ t, handle .irq quiet = .next t ∧ quiet.flag .I = false :=
  ⟨⟨_, ran _ _, by decide⟩, ⟨_, ran _ _, by decide⟩, ⟨_, rfl⟩, ⟨_, rfl⟩, ⟨_, rfl, by decide⟩⟩

/-- A store at the end of the address space, a shift in memory, a push at the start of the stack page. -/
theorem witness_MemoryIsWrittenOnlyByStoringInstructions :
    (∃ t, exec (.staAbs 0xFFFF) busy = .next t ∧ t.memRead 0xFFFF ≠ busy.memRead 0xFFFF) ∧
    (∃ t, exec (.aslZp0 0x10) busy = .next t ∧ t.memRead 0x0010 ≠ busy.memRead 0x0010) ∧
    (∃ t, exec .pha busy = .next t ∧ t.memRead 0x0100 ≠ busy.memRead 0x0100) ∧
    (∃ t, exec .rolImp busy = .next t ∧ Instr.rolImp.op ∈ [Op.ASL, .LSR, .ROL, .ROR] ∧ Instr.rolImp.mode = .imp) ∧
    ∃ t, exec (.cmpAbs 0x0000) busy = .next t ∧
      (Instr.cmpAbs 0x0000).op ∉ [Op.STA, .STX, .STY, .INC, .DEC, .ASL, .LSR, .ROL, .ROR, .PHA, .PHP, .JSR, .BRK] :=
  ⟨⟨_, ran _ _, by decide⟩, ⟨_, ran _ _, by decide⟩, ⟨_, ran _ _, by decide⟩, ⟨_, ran _ _, by decide, rfl⟩,
    ⟨_, ran _ _, by decide⟩⟩

theorem witness_TransientFieldsFollowTheirRules :
    (∃ t, exec .inx busy = .next t ∧ Instr.inx.mode = .imp) ∧
    (∃ t, exec (.ldaZp0 0xFF) busy = .next t ∧
      (Instr.ldaZp0 0xFF).op ∉ [Op.STA, .STX, .STY, .JMP, .JSR, .BCC, .BCS, .BEQ, .BNE, .BMI, .BPL, .BVC, .BVS] ∧
      (Instr.ldaZp0 0xFF).mode.kind ∉ [ModeKind.IMP, .IMM, .REL]) ∧
    (∃ t, exec (.jsr 0x1234) busy = .next t ∧
      (Instr.jsr 0x1234).op ∈ [Op.STA, .STX, .STY, .JMP, .JSR, .BCC, .BCS, .BEQ, .BNE, .BMI, .BPL, .BVC, .BVS]) ∧
    (∃ t, exec (.bcc 0x7F) busy = .next t ∧ (Instr.bcc 0x7F).mode = .rel 0x7F ∧ busy.flag .C ≠ false ∧
      t.addrAbs = busy.addrAbs) ∧
    (∃ t, exec (.bcs 0x80) busy = .next t ∧ (Instr.bcs 0x80).mode = .rel 0x80 ∧ busy.flag .C = true ∧
      t.addrAbs = busy.PC + 2 - 128) ∧
    ∃ t, exec (.adcImm 0xFF) busy = .next t ∧ (Instr.adcImm 0xFF).mode.kind = .IMM ∧ t.temp ≠ busy.temp :=
  ⟨⟨_, ran _ _, rfl⟩, ⟨_, ran _ _, by decide, by decide⟩, ⟨_, ran _ _, by decide⟩,
    ⟨_, ran _ _, rfl, by decide, by decide⟩, ⟨_, ran _ _, rfl, by decide, by decide⟩, ⟨_, ran _ _, rfl, by decide⟩⟩

theorem witness_DecimalFlagHasNoEffect :
    (∃ t, exec (.adcImm 0x01) busy = .next t ∧ (Instr.adcImm 0x01).op ∉ [Op.PHP, .BRK, .PLP, .RTI, .CLD, .SED]) ∧
    Instr.rti.op ∈ [Op.PLP, .RTI, .CLD, .SED] ∧
    ∃ s : State, s.flag .D = true ∧ s.A = 0x09 ∧ s.flag .C = false :=
  ⟨⟨_, ran _ _, by decide⟩, by decide, { quiet with A := 0x09, P := 0x28 }, by decide, by decide, by decide⟩

theorem witness_TimingDoesNotFeedBack :
    (∃ t, exec .brk busy = .next t) ∧ (∃ t, handle .nmi busy = .next t) ∧
    (∃ s t : State, s.flag .I = false ∧ handle .irq s = .next t) ∧ (∃ s : State, s.flag .I = true) ∧
    (∃ s : State, s.cycles ≠ 0) ∧ (∃ u, busy.cycles = 0 ∧ execIn flat busy.fetchInstr busy = .next u) ∧
    flat.wellFormed ∧ Event.nmi ≠ .clock :=
  ⟨⟨_, ran _ _⟩, ⟨_, rfl⟩, ⟨busy.setFlag .I false, _, by decide, rfl⟩, ⟨busy.setFlag .I true, by decide⟩,
    ⟨State.reset, by decide⟩, ⟨_, by decide, execIn_next _ _ _⟩, test_flat_wellFormed, by decide⟩

theorem witness_InvariantHoldsAtReset : Memory.wf [] ∧ busy.M.wf := by decide

theorem witness_StepKeepsTheInvariant : (∃ t, State.reset.inv ∧ step State.reset = .next t) ∧
    ∃ t, busy.inv ∧ step busy = .next t :=
  ⟨⟨_, by decide, step_busy (by decide)⟩, ⟨_, by decide, step_idle (by decide)⟩⟩

theorem witness_EveryRunIsSafe : State.reset.inv ∧ busy.inv := by decide

end Sys2Proof.Tests
end

section
/-! SUPPORT. The writers of each register and flag (10_state.md R20 to R31) and the one case split over the 57
operations that says what an operation leaves alone. -/

namespace Sys2Proof.Machine

/-- The operations that write a register (10_state.md R20, R22); the shifts and rotates write `A` in IMP alone. -/
@[simp] def regWriters (m : Mode) : Reg → List Op
  | .A => [.LDA, .TXA, .TYA, .PLA, .AND, .ORA, .EOR, .ADC, .SBC] ++ if m = .imp then [.ASL, .LSR, .ROL, .ROR] else []
  | .X => [.LDX, .TAX, .TSX, .INX, .DEX]
  | .Y => [.LDY, .TAY, .INY, .DEY]
  | .SP => [.PHA, .PHP, .PLA, .PLP, .JSR, .RTS, .BRK, .RTI, .TXS]

/-- The operations that set `PC` (10_state.md R21). -/
@[simp] def pcWriters : List Op := [.BCC, .BCS, .BEQ, .BNE, .BMI, .BPL, .BVC, .BVS, .JMP, .JSR, .RTS, .RTI, .BRK]

/-- The operations that set `Z` and `N` (10_state.md R25, R31). -/
@[simp] def znWriters : List Op :=
  [.LDA, .LDX, .LDY, .TAX, .TAY, .TXA, .TYA, .TSX, .PLA, .AND, .ORA, .EOR, .ADC, .SBC, .CMP, .CPX, .CPY,
    .ASL, .LSR, .ROL, .ROR, .INC, .DEC, .INX, .INY, .DEX, .DEY, .BIT, .PLP, .RTI]

/-- The operations that write a flag (10_state.md R24 to R31), before the instruction's end sets `U`. -/
@[simp] def flagWriters : Flag → List Op
  | .C => [.ADC, .SBC, .CMP, .CPX, .CPY, .ASL, .ROL, .LSR, .ROR, .CLC, .SEC, .PLP, .RTI]
  | .Z | .N => znWriters
  | .I => [.SEI, .CLI, .BRK, .PLP, .RTI]
  | .D => [.SED, .CLD, .PLP, .RTI]
  | .B | .U => [.PLP, .BRK, .RTI]
  | .V => [.ADC, .SBC, .BIT, .CLV, .PLP, .RTI]

/-- The operations that write memory (20_memory.md R67); the shifts and rotates do in every mode but IMP. -/
@[simp] def memWriters (m : Mode) : List Op :=
  [.STA, .STX, .STY, .INC, .DEC, .PHA, .PHP, .JSR, .BRK] ++ if m = .imp then [] else [.ASL, .LSR, .ROL, .ROR]

/-- The operations that fetch an operand (40_step_and_addressing.md R123). -/
@[simp] def fetchers : List Op :=
  [.LDA, .LDX, .LDY, .AND, .ORA, .EOR, .BIT, .ADC, .SBC, .CMP, .CPX, .CPY, .ASL, .LSR, .ROL, .ROR, .INC, .DEC]

/-- The operations that use `temp` (10_state.md R37). -/
@[simp] def tempWriters : List Op := [.ADC, .SBC, .CMP, .CPX, .CPY, .BIT, .ASL, .LSR, .ROL, .ROR, .INC, .DEC]

/-! A branch writes `cycles`, `addr_abs` and `PC` (44_branch_jump.md R210) and no other field. -/

@[simp] theorem State.branch_A (s : State) (b) : (s.branch b).A = s.A := by cases b <;> rfl
@[simp] theorem State.branch_X (s : State) (b) : (s.branch b).X = s.X := by cases b <;> rfl
@[simp] theorem State.branch_Y (s : State) (b) : (s.branch b).Y = s.Y := by cases b <;> rfl
@[simp] theorem State.branch_SP (s : State) (b) : (s.branch b).SP = s.SP := by cases b <;> rfl
@[simp] theorem State.branch_fetched (s : State) (b) : (s.branch b).fetched = s.fetched := by cases b <;> rfl
@[simp] theorem State.branch_opcode (s : State) (b) : (s.branch b).opcode = s.opcode := by cases b <;> rfl
@[simp] theorem State.branch_addrRel (s : State) (b) : (s.branch b).addrRel = s.addrRel := by cases b <;> rfl
@[simp] theorem State.branch_temp (s : State) (b) : (s.branch b).temp = s.temp := by cases b <;> rfl
@[simp] theorem State.branch_clockCount (s : State) (b) : (s.branch b).clockCount = s.clockCount := by cases b <;> rfl
@[simp] theorem State.branch_M (s : State) (b) : (s.branch b).M = s.M := by cases b <;> rfl
@[simp] theorem State.flag_branch (s : State) (b f) : (s.branch b).flag f = s.flag f := by cases b <;> rfl
@[simp] theorem State.memRead_branch (s : State) (b a) : (s.branch b).memRead a = s.memRead a := by cases b <;> rfl

@[simp] theorem State.branch_PC (s : State) (b) : (s.branch b).PC = if b then s.PC + s.addrRel else s.PC := by
  cases b <;> rfl

@[simp] theorem State.branch_addrAbs (s : State) (b) :
    (s.branch b).addrAbs = if b then s.PC + s.addrRel else s.addrAbs := by
  cases b <;> rfl

/-- In IMP the result goes to `A` and memory stays. -/
theorem writeBack_M_imp {m : Mode} (h : m = .imp) (v) (s : State) : (writeBack m v s).M = s.M := by
  subst h; rfl

theorem Reg.forall_iff {p : Reg → Prop} : (∀ r, p r) ↔ p .A ∧ p .X ∧ p .Y ∧ p .SP :=
  ⟨fun h => ⟨h _, h _, h _, h _⟩, fun ⟨hA, hX, hY, hSP⟩ r => by cases r <;> assumption⟩

theorem Flag.forall_iff {p : Flag → Prop} : (∀ f, p f) ↔ p .C ∧ p .Z ∧ p .I ∧ p .D ∧ p .B ∧ p .U ∧ p .V ∧ p .N :=
  ⟨fun h => ⟨h _, h _, h _, h _, h _, h _, h _, h _⟩,
    fun ⟨hC, hZ, hI, hD, hB, hU, hV, hN⟩ f => by cases f <;> assumption⟩

/-- What an operation `o` in mode `m` that leads from `u` to `v` leaves alone. -/
structure OpFrame (o : Op) (m : Mode) (u v : State) : Prop where
  reg : ∀ r, o ∉ regWriters m r → v.reg r = u.reg r
  pc : o ∉ pcWriters → v.PC = u.PC
  flag : ∀ f, o ∉ flagWriters f → v.flag f = u.flag f
  fetched : v.fetched = if o ∈ fetchers then (fetch m u).fetched else u.fetched
  temp : o ∉ tempWriters → v.temp = u.temp
  mem : o ∉ memWriters m → v.M = u.M

/-- What each operation can do, read off its definition once. -/
theorem opRun_frame (c : Config) (o : Op) (m : Mode) (u : State) : OpFrame o m u (opRun c o m u).1 := by
  cases o
  case LDA | LDX | LDY =>
    constructor <;> simp [Reg.forall_iff, Flag.forall_iff, State.reg, opRun, opLDA, opLDX, opLDY]
  case STA | STX | STY =>
    constructor <;> simp [State.reg, opRun, opSTA, opSTX, opSTY]
  case TAX | TAY | TXA | TYA | TSX | TXS =>
    constructor <;>
      simp [Reg.forall_iff, Flag.forall_iff, State.reg, opRun, opTAX, opTAY, opTXA, opTYA, opTSX, opTXS]
  case AND | ORA | EOR | BIT =>
    constructor <;> simp [Reg.forall_iff, Flag.forall_iff, State.reg, opRun, opAND, opORA, opEOR, opBIT]
  case ADC | SBC =>
    constructor <;> simp [Reg.forall_iff, Flag.forall_iff, State.reg, opRun, opADC, opSBC, State.addWithCarry]
  case CMP | CPX | CPY =>
    constructor <;> simp [Flag.forall_iff, State.reg, opRun, opCMP, opCPX, opCPY, State.compareWith]
  case ASL | LSR | ROL | ROR =>
    constructor <;>
      simp +contextual [Reg.forall_iff, Flag.forall_iff, State.reg, opRun, opASL, opLSR, opROL, opROR,
        writeBack_A, writeBack_M_imp]
  case INC | DEC =>
    constructor <;> simp [Flag.forall_iff, State.reg, opRun, opINC, opDEC]
  case INX | INY | DEX | DEY =>
    constructor <;> simp [Reg.forall_iff, Flag.forall_iff, State.reg, opRun, opINX, opINY, opDEX, opDEY]
  case BCC | BCS | BEQ | BNE | BMI | BPL | BVC | BVS =>
    constructor <;>
      simp [State.reg, opRun, opBCC, opBCS, opBEQ, opBNE, opBMI, opBPL, opBVC, opBVS]
  case JMP | JSR | RTS =>
    constructor <;> simp [Reg.forall_iff, State.reg, opRun, opJMP, opJSR, opRTS, State.pullWord_snd]
  case PHA | PHP | PLA | PLP =>
    constructor <;>
      simp [Reg.forall_iff, Flag.forall_iff, State.reg, opRun, opPHA, opPHP, opPLA, opPLP, State.pull_snd]
  case CLC | CLD | CLI | CLV | SEC | SED | SEI =>
    constructor <;>
      simp [Flag.forall_iff, State.reg, opRun, opCLC, opCLD, opCLI, opCLV, opSEC, opSED, opSEI]
  case BRK | RTI =>
    constructor <;> simp [Reg.forall_iff, Flag.forall_iff, State.reg, opRun, opBRK, opRTI, State.returnFromTrap_eq]
  case NOP | XXX =>
    constructor <;> simp [State.reg, opRun, opNOP, opXXX]

/-- Memory keeps its canonical form: every write is a bus write, and the other operations leave it as it is. -/
theorem opRun_wf (c : Config) (o : Op) (m : Mode) {u : State} (h : u.M.wf) : (opRun c o m u).1.M.wf := by
  by_cases ho : o ∈ memWriters m
  · cases o <;> simp only [opRun]
    case STA | STX | STY =>
      simp only [opSTA, opSTX, opSTY]
      exact State.wf_memWrite h _ _
    case INC | DEC =>
      simp only [opINC, opDEC, State.setZN_M]
      refine State.wf_memWrite ?_ _ _
      rwa [State.setTemp_M, fetch_M]
    case ASL | LSR | ROL | ROR =>
      simp only [opASL, opLSR, opROL, opROR]
      refine wf_writeBack ?_ m _
      simpa only [State.setZN_M, State.setFlag_M, State.setTemp_M, fetch_M] using h
    case PHA | PHP =>
      simp only [opPHA, opPHP]
      exact State.wf_push h _
    case JSR =>
      simp only [opJSR, State.setPC_M]
      exact State.wf_pushWord (s := u.setPC (u.PC - 1)) h _
    case BRK =>
      simp only [opBRK]
      exact State.wf_enterTrap (s := u.setPC (u.PC + 1)) h _ _
    all_goals simp at ho
  · rwa [(opRun_frame c o m u).mem ho]

end Sys2Proof.Machine
end

section
/-! SUPPORT. From an operation to its whole instruction: what `after i s` holds in each field. -/

namespace Sys2Proof.Machine

/-- The state in which the operation of `i` runs: the instruction has begun and its mode has run. -/
def ready (i : Instr) (s : State) : State := (resolve i.mode (s.beginInstr cfg i.opcode)).1

theorem after_eq (i : Instr) (s : State) :
    after i s = (opRun cfg i.op i.mode (ready i s)).1.endInstr
      (pageCross i.mode s && (opRun cfg i.op i.mode (ready i s)).2) := rfl

@[simp] theorem ready_A (i : Instr) (s : State) : (ready i s).A = s.A := by simp [ready]
@[simp] theorem ready_X (i : Instr) (s : State) : (ready i s).X = s.X := by simp [ready]
@[simp] theorem ready_Y (i : Instr) (s : State) : (ready i s).Y = s.Y := by simp [ready]
@[simp] theorem ready_SP (i : Instr) (s : State) : (ready i s).SP = s.SP := by simp [ready]
@[simp] theorem ready_opcode (i : Instr) (s : State) : (ready i s).opcode = i.opcode := by simp [ready]
@[simp] theorem ready_temp (i : Instr) (s : State) : (ready i s).temp = s.temp := by simp [ready]
@[simp] theorem ready_cycles (i : Instr) (s : State) : (ready i s).cycles = cfg.baseCycles i.opcode := by simp [ready]
@[simp] theorem ready_clockCount (i : Instr) (s : State) : (ready i s).clockCount = s.clockCount := by simp [ready]
@[simp] theorem ready_M (i : Instr) (s : State) : (ready i s).M = s.M := by simp [ready]

@[simp] theorem ready_PC (i : Instr) (s : State) : (ready i s).PC = nextPC i s := by
  rw [ready, resolve_PC, State.beginInstr_PC]
  exact nextPC_eq i s

@[simp] theorem flag_ready (i : Instr) (s : State) (f : Flag) :
    (ready i s).flag f = if f = .U then true else s.flag f := by simp [ready]

theorem ready_fetched (i : Instr) (s : State) :
    (ready i s).fetched = if i.mode = .imp then s.A else s.fetched := by simp [ready, resolve_fetched]

/-- What `Fetch` gives the operation is the operand the instruction starts with. -/
theorem fetch_ready (i : Instr) (s : State) : (fetch i.mode (ready i s)).fetched = operandOf i.mode s :=
  fetched_operand _ _ _ _

theorem ready_addrAbs (i : Instr) (s : State) :
    (ready i s).addrAbs = effAddr i.mode (s.beginInstr cfg i.opcode) := by simp [ready]

theorem after_reg {i : Instr} {r : Reg} (s : State) (h : i.op ∉ regWriters i.mode r) :
    (after i s).reg r = s.reg r := by
  have hop := (opRun_frame cfg i.op i.mode (ready i s)).reg r h
  cases r <;> simpa [after_eq, State.reg] using hop

theorem after_PC {i : Instr} (s : State) (h : i.op ∉ pcWriters) : (after i s).PC = nextPC i s := by
  have hop := (opRun_frame cfg i.op i.mode (ready i s)).pc h
  rwa [ready_PC] at hop

@[simp] theorem after_flag_U (i : Instr) (s : State) : (after i s).flag .U = true := by simp [after_eq]

theorem after_flag {i : Instr} {f : Flag} (s : State) (hf : f ≠ .U) (h : i.op ∉ flagWriters f) :
    (after i s).flag f = s.flag f := by
  have hop := (opRun_frame cfg i.op i.mode (ready i s)).flag f h
  simpa [after_eq, hf] using hop

theorem after_wf (i : Instr) {s : State} (h : s.M.wf) : (after i s).M.wf := by
  rw [after_eq, State.endInstr_M]
  exact opRun_wf cfg i.op i.mode (by rwa [ready_M])

/-- An implied instruction leaves `A` in `fetched`, an instruction that fetches its operand, the others nothing. -/
theorem after_fetched (i : Instr) (s : State) :
    (after i s).fetched = if i.op ∈ fetchers then operandOf i.mode s
      else if i.mode = .imp then s.A else s.fetched := by
  rw [after_eq, State.endInstr_fetched, (opRun_frame cfg i.op i.mode (ready i s)).fetched, fetch_ready, ready_fetched]

/-! Branches: the operations of mode REL, each on one flag (44_branch_jump.md R211 to R218). -/

/-- Each branch with the flag it tests and the value it is taken on. -/
def branchTable : List (Op × Flag × Bool) :=
  [(.BCC, .C, false), (.BCS, .C, true), (.BEQ, .Z, true), (.BNE, .Z, false), (.BMI, .N, true), (.BPL, .N, false),
    (.BVC, .V, false), (.BVS, .V, true)]

theorem opRun_of_mem_branchTable {o : Op} {f : Flag} {b : Bool} (h : (o, f, b) ∈ branchTable) (c : Config) (m : Mode)
    (u : State) : opRun c o m u = (u.branch (u.flag f == b), false) := by
  simp only [branchTable, List.mem_cons, Prod.mk.injEq, List.not_mem_nil, or_false] at h
  obtain ⟨rfl, rfl, rfl⟩ | ⟨rfl, rfl, rfl⟩ | ⟨rfl, rfl, rfl⟩ | ⟨rfl, rfl, rfl⟩ | ⟨rfl, rfl, rfl⟩ | ⟨rfl, rfl, rfl⟩ |
    ⟨rfl, rfl, rfl⟩ | ⟨rfl, rfl, rfl⟩ := h <;>
  simp [opRun, opBCC, opBCS, opBEQ, opBNE, opBMI, opBPL, opBVC, opBVS]

theorem exists_branch {o : Op} (h : isBranch o = true) : ∃ f b, (o, f, b) ∈ branchTable := by
  simpa [isBranch, branchTable, exists_or] using h

theorem isBranch_eq_rel (i : Instr) : isBranch i.op = (i.mode.kind == .REL) := by cases i <;> rfl

theorem branch_baseCycles {i : Instr} (h : isBranch i.op = true) : cfg.baseCycles i.opcode = 2 := by
  cases i
  case bcc | bcs | beq | bne | bmi | bpl | bvc | bvs => change cfg.baseCycles (BitVec.ofNat 8 _) = 2; decide
  all_goals cases h

/-- A branch never signals a page cross of its mode. -/
theorem pageCross_rel {m : Mode} (h : m.kind = .REL) (s : State) : pageCross m s = false := by
  cases m
  case rel => rfl
  all_goals cases h

/-- The countdown an instruction leaves before its own `Clock` event is counted (10_state.md R38). -/
theorem after_cycles_le (i : Instr) (s : State) : (after i s).cycles ≤ 9 := by
  by_cases hb : isBranch i.op = true
  · obtain ⟨f, b, hmem⟩ := exists_branch hb
    have hcross : pageCross i.mode s = false := pageCross_rel (by simpa [isBranch_eq_rel] using hb) s
    have htaken := (State.branch_cycles (ready i s) ((ready i s).flag f == b)).2
    rw [ready_cycles, branch_baseCycles hb] at htaken
    rw [after_eq, opRun_of_mem_branchTable hmem, hcross]
    simpa using htaken.trans (by decide)
  · have hbase := cfg_baseCycles_le i.opcode
    have hkeep := opRun_cycles cfg i.op i.mode (ready i s) (by simpa using hb)
    rw [after_eq, State.endInstr_cycles, hkeep, ready_cycles]
    exact Nat.add_le_add hbase (Bool.toNat_le _)

/-! The events of the environment. -/

@[simp] theorem State.flag_resetEvent (s : State) (c : Config) (f : Flag) :
    (s.resetEvent c).flag f = getFlag 0x20 f := rfl

end Sys2Proof.Machine
end

section
/-! The invariant (10_state.md R32, R38, R42): it holds at reset, every event keeps it, so every run does. -/

namespace Sys2Proof.Machine

theorem inv_launch {M0 : Memory} (h : M0.wf) (opcode0 : Byte) (temp0 : Word) : (State.launch M0 opcode0 temp0).inv :=
  ⟨(by decide : getFlag 0x20 .U = true), h, le_rfl⟩

theorem inv_clockTick {s : State} (h : s.inv) : s.clockTick.inv := by
  obtain ⟨hU, hM, hc⟩ := h
  exact ⟨hU, hM, (Nat.sub_le _ _).trans hc⟩

/-- The `Clock` event that runs an instruction counts one of its cycles. -/
theorem inv_clockTick_after (i : Instr) {s : State} (h : s.M.wf) : (after i s).clockTick.inv :=
  ⟨after_flag_U i s, after_wf i h, Nat.sub_le_of_le_add (after_cycles_le i s)⟩

theorem inv_resetEvent {s : State} (h : s.M.wf) : (s.resetEvent cfg).inv :=
  ⟨(by decide : getFlag 0x20 .U = true), h, le_rfl⟩

theorem inv_enterTrap {s : State} (h : s.M.wf) (b : Bool) (v a : Word) {n : Nat} (hn : n ≤ 8) :
    (((s.enterTrap b v).setAddrAbs a).setCycles n).inv :=
  ⟨by simp, State.wf_enterTrap h b v, hn⟩

/-- One `Clock` event, in either phase, goes on to a state with the invariant. -/
theorem step_inv {s : State} (h : s.inv) : ∃ t, step s = .next t ∧ t.inv := by
  have ⟨_, hM, _⟩ := h
  by_cases hidle : s.cycles = 0
  · exact ⟨_, step_idle hidle, inv_clockTick_after _ hM⟩
  · exact ⟨_, step_busy hidle, inv_clockTick h⟩

/-- Every event goes on to a state with the invariant. -/
theorem handle_inv (e : Event) {s : State} (h : s.inv) : ∃ t, handle e s = .next t ∧ t.inv := by
  have ⟨hU, hM, hc⟩ := h
  cases e with
  | clock => exact step_inv h
  | reset => exact ⟨_, rfl, inv_resetEvent hM⟩
  | irq =>
    refine ⟨_, rfl, ?_⟩
    unfold State.irqEvent
    split
    · exact h
    · exact inv_enterTrap hM _ _ _ (by decide)
  | nmi => exact ⟨_, rfl, inv_enterTrap hM _ _ _ le_rfl⟩
  | hostWrite a v => exact ⟨_, rfl, hU, State.wf_memWrite hM a v, hc⟩

theorem handleAll_inv (es : List Event) {s : State} (h : s.inv) : ∃ t, handleAll es s = .next t ∧ t.inv := by
  induction es generalizing s with
  | nil => exact ⟨s, handleAll_nil s, h⟩
  | cons e es ih =>
    obtain ⟨t, ht, hinv⟩ := handle_inv e h
    rw [handleAll_cons ht]
    exact ih hinv

/-- Settles O58: both are launch states of a canonical memory. -/
theorem invariantHoldsAtReset : Obligations.InvariantHoldsAtReset :=
  ⟨inv_launch Memory.wf_nil _ _, fun _ opcode0 temp0 h => inv_launch h opcode0 temp0⟩

/-- Settles O59: the state a `Clock` event goes on to is the only one it answers. -/
theorem stepKeepsTheInvariant : Obligations.StepKeepsTheInvariant := by
  intro s t hinv hstep
  obtain ⟨u, hu, huinv⟩ := step_inv hinv
  rw [hu] at hstep
  cases hstep
  exact huinv

/-- Settles O60, by induction on the sequence of events. -/
theorem everyRunIsSafe : Obligations.EveryRunIsSafe := fun _ hinv es => handleAll_inv es hinv

end Sys2Proof.Machine
end

section
/-! The obligations on the writers of registers and flags (10_state.md R20 to R31). -/

namespace Sys2Proof.Machine

/-- A register an instruction changes is one its operation writes. -/
theorem mem_regWriters_of_ne {i : Instr} {r : Reg} {s : State} (h : (after i s).reg r ≠ s.reg r) :
    i.op ∈ regWriters i.mode r := not_imp_comm.1 (after_reg s) h

/-- A flag an instruction changes is one its operation writes. -/
theorem mem_flagWriters_of_ne {i : Instr} {f : Flag} {s : State} (hf : f ≠ .U) (h : (after i s).flag f ≠ s.flag f) :
    i.op ∈ flagWriters f := not_imp_comm.1 (after_flag s hf) h

/-- Settles O51: an operation leaves alone every register outside its list of writers. -/
theorem registersAreWrittenOnlyByTheirInstructions : Obligations.RegistersAreWrittenOnlyByTheirInstructions := by
  intro i s t h
  obtain rfl := exec_next_iff.1 h
  refine ⟨fun hA => ?_, fun hX => mem_regWriters_of_ne (r := .X) hX, fun hY => mem_regWriters_of_ne (r := .Y) hY,
    fun hSP => mem_regWriters_of_ne (r := .SP) hSP, not_imp_comm.1 (after_PC s)⟩
  have hop : i.op ∈ regWriters i.mode .A := mem_regWriters_of_ne hA
  rw [regWriters, List.mem_append] at hop
  split at hop
  · next himp => exact hop.imp_right fun hshift => ⟨hshift, himp⟩
  · exact .inl (hop.resolve_right List.not_mem_nil)

/-- Settles O52: an operation leaves alone every flag outside its list of writers, and the end of the instruction
sets `U`. -/
theorem flagsAreWrittenOnlyByTheirInstructions : Obligations.FlagsAreWrittenOnlyByTheirInstructions := by
  intro i s t h
  obtain rfl := exec_next_iff.1 h
  have changed : ∀ f ≠ .U, (after i s).flag f ≠ s.flag f → i.op ∈ flagWriters f := fun f hf => mem_flagWriters_of_ne hf
  exact ⟨after_flag_U i s, changed .C (by decide), fun hzn => hzn.elim (changed .Z (by decide)) (changed .N (by decide)),
    changed .I (by decide), changed .D (by decide), changed .V (by decide)⟩

/-- BRK and RTI leave the live `B` at 0 (D14, D16). -/
theorem after_flag_B_of_brk_or_rti {i : Instr} (s : State) (h : i.op = .BRK ∨ i.op = .RTI) :
    (after i s).flag .B = false := by
  rcases h with h | h <;> simp [after_eq, h, opRun, opBRK, opRTI, State.returnFromTrap_eq]

/-- Settles O53: only PLP, BRK and RTI write `B`, and BRK, RTI and the events clear it. -/
theorem breakFlagRisesOnlyByPLP : Obligations.BreakFlagRisesOnlyByPLP := by
  constructor
  · intro i s t h hB
    obtain rfl := exec_next_iff.1 h
    have hne : ¬(i.op = .BRK ∨ i.op = .RTI) := fun hop => by simp [after_flag_B_of_brk_or_rti s hop] at hB
    rw [not_or] at hne
    by_cases hplp : i.op = .PLP
    · exact .inl hplp
    · have hkeep := after_flag (i := i) (f := .B) s (by decide) (by simp [hplp, hne])
      exact .inr ⟨hkeep ▸ hB, hne⟩
  · rintro e s t h (rfl | rfl | ⟨rfl, hI⟩) <;> cases h
    · exact State.flag_resetEvent s cfg .B
    · simp [State.nmiEvent]
    · simp [State.irqEvent, hI]

end Sys2Proof.Machine
end

section
/-! SUPPORT. The wide results of 10_state.md R37 as numbers. -/

namespace Sys2Proof.Machine

theorem State.toNat_carryWord_le (s : State) : s.carryWord.toNat ≤ 1 := s.toNat_carryWord ▸ Bool.toNat_le _

theorem State.toNat_addWithCarry_temp (s : State) (v : Byte) :
    (s.addWithCarry v).temp.toNat = s.A.toNat + v.toNat + (s.flag .C).toNat := by
  have hA := s.A.isLt
  have hv := v.isLt
  have hc := s.toNat_carryWord_le
  simp [State.addWithCarry, s.toNat_carryWord] at hc ⊢
  omega

theorem State.toNat_compareWith_temp (s : State) (r : Byte) :
    (s.compareWith r).temp.toNat = (r.toNat + 65536 - s.fetched.toNat) % 65536 := by
  have hf := s.fetched.isLt
  simp [State.compareWith, BitVec.toNat_sub]
  omega

theorem toNat_complement (v : Byte) : (v ^^^ 0xFF).toNat = 255 - v.toNat := by
  rw [show v ^^^ 0xFF = ~~~v from BitVec.xor_allOnes, BitVec.toNat_not]

theorem toNat_zext16_shiftLeft (v : Byte) : (zext16 v <<< 1).toNat = 2 * v.toNat := by
  have := v.isLt
  simp [Nat.shiftLeft_eq]
  omega

theorem toNat_zext16_shiftRight (v : Byte) : (zext16 v >>> 1).toNat = v.toNat / 2 := by
  simp [Nat.shiftRight_eq_div_pow]

theorem toNat_rotateLeft (v : Byte) (s : State) :
    ((zext16 v <<< 1) ||| s.carryWord).toNat = 2 * v.toNat + (s.flag .C).toNat := by
  have hc : (s.flag .C).toNat < 2 ^ 1 := Bool.toNat_lt _
  rw [BitVec.toNat_or, toNat_zext16_shiftLeft, s.toNat_carryWord, Nat.mul_comm, ← Nat.shiftLeft_eq v.toNat 1,
    Nat.shiftLeft_add_eq_or_of_lt hc]

theorem toNat_rotateRight (v : Byte) (s : State) :
    ((s.carryWord <<< 7) ||| (zext16 v >>> 1)).toNat = 128 * (s.flag .C).toNat + v.toNat / 2 := by
  have hv : v.toNat / 2 < 2 ^ 7 := by have := v.isLt; omega
  have hc : (s.carryWord <<< 7).toNat = (s.flag .C).toNat <<< 7 := by cases h : s.flag .C <;> simp [State.carryWord, h]
  rw [BitVec.toNat_or, hc, toNat_zext16_shiftRight, ← Nat.shiftLeft_add_eq_or_of_lt hv, Nat.shiftLeft_eq, Nat.mul_comm]

theorem toNat_zext16_add_one (v : Byte) : (zext16 v + 1).toNat = v.toNat + 1 := by
  have := v.isLt
  simp
  omega

theorem toNat_zext16_sub_one (v : Byte) : (zext16 v - 1).toNat = (v.toNat + 65535) % 65536 := by
  simp [BitVec.toNat_sub, Nat.add_comm]

end Sys2Proof.Machine
end

section
/-! The obligation on the transient fields (10_state.md R33 to R39). -/

namespace Sys2Proof.Machine

/-- `temp` after an operation `o` of the operand `b` in the state `s`, as a number (10_state.md R37). -/
def wideResult (s : State) (b : Byte) : Op → Nat
  | .ADC => s.A.toNat + b.toNat + (s.flag .C).toNat
  | .SBC => s.A.toNat + (255 - b.toNat) + (s.flag .C).toNat
  | .CMP => (s.A.toNat + 65536 - b.toNat) % 65536
  | .CPX => (s.X.toNat + 65536 - b.toNat) % 65536
  | .CPY => (s.Y.toNat + 65536 - b.toNat) % 65536
  | .BIT => (s.A &&& b).toNat
  | .ASL => 2 * b.toNat
  | .LSR => b.toNat / 2
  | .ROL => 2 * b.toNat + (s.flag .C).toNat
  | .ROR => 128 * (s.flag .C).toNat + b.toNat / 2
  | .INC => b.toNat + 1
  | .DEC => (b.toNat + 65535) % 65536
  | _ => s.temp.toNat

theorem opRun_temp (c : Config) (o : Op) (m : Mode) (u : State) :
    (opRun c o m u).1.temp.toNat = wideResult u (fetch m u).fetched o := by
  cases o
  case ADC => simp [opRun, opADC, State.toNat_addWithCarry_temp, wideResult]
  case SBC =>
    simpa [opRun, opSBC, State.toNat_addWithCarry_temp, wideResult] using toNat_complement (fetch m u).fetched
  case CMP | CPX | CPY => simp [opRun, opCMP, opCPX, opCPY, State.toNat_compareWith_temp, wideResult]
  case BIT => simp [opRun, opBIT, wideResult]
  case ASL => simpa [opRun, opASL, wideResult] using toNat_zext16_shiftLeft (fetch m u).fetched
  case LSR => simpa [opRun, opLSR, wideResult] using toNat_zext16_shiftRight (fetch m u).fetched
  case ROL => simpa [opRun, opROL, wideResult] using toNat_rotateLeft (fetch m u).fetched (fetch m u)
  case ROR => simpa [opRun, opROR, wideResult] using toNat_rotateRight (fetch m u).fetched (fetch m u)
  case INC => simpa [opRun, opINC, wideResult] using toNat_zext16_add_one (fetch m u).fetched
  case DEC => simpa [opRun, opDEC, wideResult] using toNat_zext16_sub_one (fetch m u).fetched
  all_goals exact congrArg BitVec.toNat ((opRun_frame c _ m u).temp (by decide))

theorem after_temp_toNat (i : Instr) (s : State) :
    (after i s).temp.toNat = wideResult s (operandOf i.mode s) i.op := by
  rw [after_eq, State.endInstr_temp, opRun_temp, fetch_ready]
  cases i.op <;> simp [wideResult]

/-- The operations with an addressing mode that read no operand: stores, jumps and branches. -/
@[simp] def nonFetchers : List Op := [.STA, .STX, .STY, .JMP, .JSR, .BCC, .BCS, .BEQ, .BNE, .BMI, .BPL, .BVC, .BVS]

/-- An operation fetches its operand, or has an addressing mode and fetches none, or stands in IMP alone. -/
theorem op_fetch_cases (o : Op) :
    (o ∈ fetchers ∧ o ∉ nonFetchers) ∨ (o ∈ nonFetchers ∧ o ∉ fetchers ∧ o.allows .IMP = false) ∨
      (o ∉ nonFetchers ∧ o.modes = [.IMP]) := by
  cases o <;> decide

theorem after_fetched_of_fetching {i : Instr} (s : State) (h : i.mode = .imp ∨ i.op ∉ nonFetchers) :
    (after i s).fetched = operandOf i.mode s := by
  have himp : i.op ∉ fetchers → i.mode = .imp := by
    rcases op_fetch_cases i.op with ⟨hf, -⟩ | ⟨hn, -, -⟩ | ⟨-, hm⟩
    · exact fun hno => absurd hf hno
    · exact fun _ => h.resolve_right (not_not_intro hn)
    · exact fun _ => mode_eq_imp i.op rfl hm
  rw [after_fetched]
  split
  · rfl
  · next hno => rw [himp hno]; rfl

theorem after_fetched_of_nonFetchers {i : Instr} (s : State) (h : i.op ∈ nonFetchers) :
    (after i s).fetched = s.fetched := by
  have hallows := op_allows_mode i
  rcases op_fetch_cases i.op with ⟨-, hno⟩ | ⟨-, hf, hno⟩ | ⟨hno, -⟩
  · exact absurd h hno
  · have hmode : i.mode ≠ .imp := fun himp => by simp [himp, Mode.kind, hno] at hallows
    rw [after_fetched, if_neg hf, if_neg hmode]
  · exact absurd h hno

/-- Every mode but REL leaves `addr_abs` as it resolved it. -/
theorem after_addrAbs_of_ne_rel {i : Instr} (s : State) (h : i.mode.kind ≠ .REL) :
    (after i s).addrAbs = effAddr i.mode (s.beginInstr cfg i.opcode) := by
  rw [after_eq, State.endInstr_addrAbs, opRun_addrAbs _ _ _ _ (by simpa [isBranch_eq_rel] using h), ready_addrAbs]

theorem ready_addrRel_of_rel {i : Instr} {d : Byte} (s : State) (h : i.mode = .rel d) :
    (ready i s).addrRel = sext16 d := by
  simp [ready, h, resolve]

theorem ready_addrRel_of_ne_rel {i : Instr} (s : State) (h : i.mode.kind ≠ .REL) :
    (ready i s).addrRel = s.addrRel := by
  rw [ready]
  cases hm : i.mode
  case rel => simp [hm, Mode.kind] at h
  all_goals simp [resolve, State.skipOperand]

/-- A branch leaves its target in `addr_abs` when it is taken. -/
theorem after_addrAbs_of_branch {i : Instr} {d : Byte} {f : Flag} {b : Bool} (s : State) (hm : i.mode = .rel d)
    (hop : (i.op, f, b) ∈ branchTable) :
    (after i s).addrAbs = if s.flag f = b then s.PC + 2 + sext16 d else s.addrAbs := by
  have hU : f ≠ .U := by rintro rfl; simp [branchTable] at hop
  have hPC : (ready i s).PC = s.PC + 2 := by simp [nextPC, Instr.length, hm, Mode.kind, ModeKind.operandBytes]
  have habs : (ready i s).addrAbs = s.addrAbs := by simp [ready_addrAbs, hm, effAddr]
  rw [after_eq, opRun_of_mem_branchTable hop, State.endInstr_addrAbs, State.branch_addrAbs, flag_ready, if_neg hU, hPC,
    habs, ready_addrRel_of_rel s hm]
  simp

theorem after_addrRel (i : Instr) (s : State) : (after i s).addrRel = (ready i s).addrRel := by
  rw [after_eq, State.endInstr_addrRel, opRun_addrRel]

/-- Settles O55, one lemma for each field. -/
theorem transientFieldsFollowTheirRules : Obligations.TransientFieldsFollowTheirRules := by
  intro i s t h
  obtain rfl := exec_next_iff.1 h
  refine ⟨?_, ?_, after_fetched_of_fetching s, after_fetched_of_nonFetchers s, fun himp => ?_, fun himm => ?_,
    fun hkind => ?_, fun d hrel => ⟨?_, fun e he hop => ?_⟩, fun hne => ?_, after_temp_toNat i s⟩
  · simp [after_eq, opRun_opcode]
  · simp [after_eq, opRun_clockCount]
  · rw [after_addrAbs_of_ne_rel s (by simp [himp, Mode.kind]), himp]
    simp [effAddr]
  · rw [after_addrAbs_of_ne_rel s (by simp [himm])]
    cases hm : i.mode <;> simp [hm, Mode.kind] at himm
    simp [effAddr]
  · simp only [List.mem_cons, not_or] at hkind
    obtain ⟨-, hImm, hRel, -⟩ := hkind
    rw [after_addrAbs_of_ne_rel s hRel, effAddr_beginInstr _ _ _ _ hImm]
  · rw [after_addrRel, ready_addrRel_of_rel s hrel]
  · obtain ⟨o, f, b⟩ := e
    cases hop
    exact after_addrAbs_of_branch s hrel he
  · rw [after_addrRel, ready_addrRel_of_ne_rel s hne]

end Sys2Proof.Machine
end

section
/-! SUPPORT. The matrix and the encoder agree (30_encoding.md R90, R92, R96, R97): what a row makes of operand bytes is
encoded as those bytes behind the opcode byte, and a row makes every instruction that has its opcode byte. -/

namespace Sys2Proof

/-- What a row makes of an operand: nothing, the byte `b` or the word `w`, as its format has it. -/
def Row.make (b : Byte) (w : Word) : Row → Instr
  | .f1 i _ => i
  | .f2 mk _ => mk b
  | .f3 mk _ => mk w

/-- The operand bytes of a row's format, low byte first. -/
def Row.operand (b : Byte) (w : Word) : Row → List Byte
  | .f1 _ _ => []
  | .f2 _ _ => [b]
  | .f3 _ _ => [lo w, hi w]

/-- The operand of a row lies in the two bytes after the opcode byte. -/
theorem Row.operand_prefix (l h : Byte) (r : Row) : r.operand l (word h l) <+: [l, h] := by
  cases r <;> simp [Row.operand]

/-- Two bytes that begin with an operand make the instruction that has it. -/
theorem Row.make_of_operand_prefix {b l h : Byte} {w : Word} {r : Row} (hp : r.operand b w <+: [l, h]) :
    r.make l (word h l) = r.make b w := by
  cases r with
  | f1 => rfl
  | f2 mk =>
    have hl : b = l := by simpa [Row.operand] using hp
    rw [hl, Row.make, Row.make]
  | f3 mk =>
    obtain ⟨hl, hh⟩ : lo w = l ∧ hi w = h := by simpa [Row.operand] using hp
    rw [← hl, ← hh, word_hi_lo]
    rfl

theorem opcode_make_rowOf (opc : Byte) : ((rowOf opc).make 0 0).opcode = opc := by
  revert opc
  decide

theorem encode_make_rowOf_opcode (i : Instr) (b : Byte) (w : Word) :
    encode ((rowOf i.opcode).make b w) = i.opcode :: (rowOf i.opcode).operand b w := by
  cases i <;> dsimp only [Instr.opcode] <;> rfl

/-- Every opcode byte is the one of some instruction, so its row is encoded behind it. -/
theorem encode_make_rowOf (opc b : Byte) (w : Word) :
    encode ((rowOf opc).make b w) = opc :: (rowOf opc).operand b w := by
  simpa only [opcode_make_rowOf] using encode_make_rowOf_opcode ((rowOf opc).make 0 0) b w

/-- The operand of a one-byte mode. -/
def Mode.operandByte : Mode → Byte
  | .imm b | .zp0 b | .zpx b | .zpy b | .rel b | .izx b | .izy b => b
  | .imp | .abs _ | .abx _ | .aby _ | .ind _ => 0

/-- The operand of a two-byte mode. -/
def Mode.operandWord : Mode → Word
  | .abs w | .abx w | .aby w | .ind w => w
  | .imp | .imm _ | .zp0 _ | .zpx _ | .zpy _ | .rel _ | .izx _ | .izy _ => 0

/-- An instruction is what the row of its opcode byte makes of its operand. -/
theorem make_rowOf_opcode (i : Instr) : (rowOf i.opcode).make i.mode.operandByte i.mode.operandWord = i := by
  cases i <;> dsimp only [Instr.opcode] <;> rfl

end Sys2Proof
end

section
/-! SUPPORT. Bytes stored in a row read back, and the instruction fetched is the one whose bytes stand at `PC`
(20_memory.md R76). -/

namespace Sys2Proof.Machine

theorem State.fetchInstr_eq (s : State) :
    s.fetchInstr = (rowOf (s.memRead s.PC)).make (s.memRead (s.PC + 1))
      (word (s.memRead (s.PC + 2)) (s.memRead (s.PC + 1))) := by
  unfold State.fetchInstr
  cases rowOf (s.memRead s.PC) <;> rfl

theorem State.bytesFrom_longest (s : State) (a : Word) :
    s.bytesFrom a longest = [s.memRead a, s.memRead (a + 1), s.memRead (a + 2)] := by
  simp [State.bytesFrom, longest, List.range_succ]

theorem add_ofNat_succ (a : Word) (k : Nat) : a + BitVec.ofNat 16 (k + 1) = a + 1 + BitVec.ofNat 16 k := by
  rw [Nat.add_comm, BitVec.ofNat_add, BitVec.add_assoc]
  rfl

theorem State.bytesFrom_succ (s : State) (a : Word) (n : Nat) :
    s.bytesFrom a (n + 1) = s.memRead a :: s.bytesFrom (a + 1) n := by
  rw [State.bytesFrom, List.range_succ_eq_map, List.map_cons, List.map_map]
  exact congrArg₂ List.cons (congrArg s.memRead (BitVec.add_zero a))
    (List.map_congr_left fun k _ => congrArg s.memRead (add_ofNat_succ a k))

theorem State.bytesFrom_prefix (s : State) (a : Word) {m n : Nat} (h : m ≤ n) :
    s.bytesFrom a m <+: s.bytesFrom a n := by
  obtain ⟨k, rfl⟩ := Nat.exists_eq_add_of_le h
  rw [State.bytesFrom, State.bytesFrom, List.range_add, List.map_append]
  exact List.prefix_append _ _

/-- The instruction fetched stands at `PC`. -/
theorem State.encode_fetchInstr_prefix (s : State) : encode s.fetchInstr <+: s.bytesFrom s.PC longest := by
  rw [s.bytesFrom_longest, s.fetchInstr_eq, encode_make_rowOf]
  exact (List.prefix_cons_inj _).2 (Row.operand_prefix _ _ _)

/-- The instruction that stands at `PC` is the one fetched. -/
theorem State.fetchInstr_of_encode_prefix {s : State} {i : Instr} (h : encode i <+: s.bytesFrom s.PC longest) :
    s.fetchInstr = i := by
  have hencode := encode_make_rowOf_opcode i i.mode.operandByte i.mode.operandWord
  rw [make_rowOf_opcode] at hencode
  rw [s.bytesFrom_longest, hencode, List.cons_prefix_cons] at h
  obtain ⟨hopc, hoperand⟩ := h
  rw [s.fetchInstr_eq, ← hopc, Row.make_of_operand_prefix hoperand, make_rowOf_opcode]

@[simp] theorem State.placeBytes_PC (s : State) (a : Word) (bs : List Byte) : (s.placeBytes a bs).PC = s.PC := by
  induction bs generalizing s a with
  | nil => rfl
  | cons b bs ih => exact ih (s.memWrite a b) (a + 1)

/-- Stored bytes leave every address outside their range as it was. -/
theorem State.memRead_placeBytes_of_ne (bs : List Byte) (s : State) (a c : Word)
    (h : ∀ k < bs.length, c ≠ a + BitVec.ofNat 16 k) : (s.placeBytes a bs).memRead c = s.memRead c := by
  induction bs generalizing s a with
  | nil => rfl
  | cons b bs ih =>
    have hc : c ≠ a := by simpa using h 0 (by simp)
    have hrest : ∀ k < bs.length, c ≠ a + 1 + BitVec.ofNat 16 k := fun k hk =>
      add_ofNat_succ a k ▸ h (k + 1) (Nat.succ_lt_succ hk)
    rw [State.placeBytes, ih _ _ hrest, State.memRead_memWrite, if_neg hc]

/-- A byte string no longer than the address space reads back from where it was stored, also past 0xFFFF. -/
theorem State.bytesFrom_placeBytes (s : State) (bs : List Byte) (a : Word) (h : bs.length ≤ memorySize) :
    (s.placeBytes a bs).bytesFrom a bs.length = bs := by
  induction bs generalizing s a with
  | nil => rfl
  | cons b bs ih =>
    rw [List.length_cons] at h
    have hfirst : ∀ k < bs.length, a ≠ a + 1 + BitVec.ofNat 16 k := fun k hk => by
      simp only [memorySize] at h
      bv_omega
    rw [List.length_cons, State.bytesFrom_succ, State.placeBytes, ih _ _ (Nat.le_of_succ_le h),
      State.memRead_placeBytes_of_ne bs _ _ _ hfirst, State.memRead_memWrite, if_pos rfl]

theorem length_encode_le (i : Instr) : (encode i).length ≤ longest := by
  rw [encode]
  cases i.mode <;> simp [Mode.bytes, longest]

theorem State.fetchInstr_placeBytes (s : State) (i : Instr) : (s.placeBytes s.PC (encode i)).fetchInstr = i := by
  have hlen := length_encode_le i
  have hbytes := s.bytesFrom_placeBytes (encode i) s.PC (hlen.trans (by decide))
  apply State.fetchInstr_of_encode_prefix
  rw [State.placeBytes_PC]
  conv_lhs => rw [← hbytes]
  exact State.bytesFrom_prefix _ _ hlen

@[simp] theorem State.fetchInstr_setCycles (s : State) (n : Nat) : (s.setCycles n).fetchInstr = s.fetchInstr := rfl

/-- Settles O7: stored bytes read back from `PC`, and the row of their opcode byte makes the instruction of them. -/
theorem fetchReadsWhatWasStored : Obligations.FetchReadsWhatWasStored := by
  intro s i
  refine ⟨s.fetchInstr_placeBytes i, fun t hexec => ?_⟩
  rw [exec_next_iff.1 hexec, step_idle rfl, State.fetchInstr_setCycles, s.fetchInstr_placeBytes]

end Sys2Proof.Machine
end

section
/-! The laws of memory: reads, writes, events and the canonical form (20_memory.md R60 to R64, R78, R79). -/

namespace Sys2Proof.Machine

/-- A bus read looks at its address modulo the size of the space and never at the qualifier. -/
theorem Memory.busRead_mod (m : Memory) (a : Nat) (q r : Bool) : m.busRead (a % memorySize) r = m.busRead a q := by
  simp [Memory.busRead]

theorem Memory.busWrite_of_le {m : Memory} {a : Nat} (h : memorySize ≤ a) (v : Byte) : m.busWrite a v = m :=
  if_neg (Nat.not_lt.2 h)

theorem Memory.get_of_forall_ne {m : Memory} {a : Nat} (h : ∀ c ∈ m, c.1 ≠ a) : m.get a = unlisted := by
  induction m with
  | nil => rfl
  | cons c m ih =>
    rw [List.forall_mem_cons] at h
    rw [Memory.get, if_neg h.1, ih h.2]

/-- A memory in canonical form lists no cell outside the address space. -/
theorem Memory.get_of_le {m : Memory} (hm : m.wf) {a : Nat} (h : memorySize ≤ a) : m.get a = unlisted :=
  Memory.get_of_forall_ne fun c hc => ((hm.2 c hc).1.trans_le h).ne

/-- Settles O48: the rules of the bus, and what `HostWrite` and `Reset` leave alone. -/
theorem memoryReadAfterWrite : Obligations.MemoryReadAfterWrite := by
  refine ⟨State.memRead_memWrite, fun s a v => ⟨rfl, rfl⟩, fun m a b v q => ?_,
    fun m a v h => Memory.busWrite_of_le h v, ?_⟩
  · change _ = if a < memorySize ∧ b % memorySize = a then v else m.busRead (b % memorySize) false
    rw [m.busRead_mod b q]
    by_cases ha : a < memorySize
    · rw [Memory.busRead_busWrite m a b v q ha]
      simp only [ha, true_and]
    · rw [Memory.busWrite_of_le (Nat.not_lt.1 ha), if_neg fun h => ha h.1]
  · intro s t h
    cases h
    rfl

/-- Settles O49: inside the address space the hypothesis gives equal bytes, outside it a canonical memory lists none. -/
theorem canonicalMemoryIsKeptAndUnique : Obligations.CanonicalMemoryIsKeptAndUnique := by
  refine ⟨fun m a v h => Memory.wf_busWrite h a v, fun m n hm hn h => Laws.memory_ext hm hn fun a => ?_⟩
  by_cases ha : a < memorySize
  · have hword := h (BitVec.ofNat 16 a)
    simpa [Memory.busRead, Nat.mod_eq_of_lt ha, Nat.mod_eq_of_lt (show a < 65536 from ha)] using hword
  · rw [Memory.get_of_le hm (Nat.not_lt.1 ha), Memory.get_of_le hn (Nat.not_lt.1 ha)]

end Sys2Proof.Machine
end

section
/-! Where memory is written (20_memory.md R67, R79). -/

namespace Sys2Proof.Machine

/-- The operations that write memory at their effective address. -/
def storers : List Op := [.STA, .STX, .STY, .INC, .DEC, .ASL, .LSR, .ROL, .ROR]

/-- The operations that push. -/
def pushers : List Op := [.PHA, .PHP, .JSR, .BRK]

theorem stackAddr_page (b : Byte) : 0x0100 ≤ (stackAddr b).toNat ∧ (stackAddr b).toNat ≤ 0x01FF := by
  revert b
  decide

theorem opRun_memRead_of_storer {o : Op} (ho : o ∈ storers) (c : Config) (m : Mode) (u : State) {a : Word}
    (ha : a ≠ u.addrAbs) : (opRun c o m u).1.memRead a = u.memRead a := by
  cases o
  case STA | STX | STY => simp [opRun, opSTA, opSTX, opSTY, ha]
  case INC | DEC => simp [opRun, opINC, opDEC, ha]
  case ASL | LSR | ROL | ROR => simp [opRun, opASL, opLSR, opROL, opROR, memRead_writeBack, ha]
  all_goals exact absurd ho (by decide)

theorem opRun_memRead_of_pusher {o : Op} (ho : o ∈ pushers) (c : Config) (m : Mode) (u : State) {a : Word}
    (ha : ∀ sp, a ≠ stackAddr sp) : (opRun c o m u).1.memRead a = u.memRead a := by
  cases o
  case PHA | PHP => simp [opRun, opPHA, opPHP, ha]
  case JSR => simp [opRun, opJSR, State.memRead_pushWord, ha]
  case BRK => exact State.memRead_enterTrap (u.setPC (u.PC + 1)) true vectorIRQ a (ha _) (ha _) (ha _)
  all_goals exact absurd ho (by decide)

theorem after_M {i : Instr} (s : State) (h : i.op ∉ memWriters i.mode) : (after i s).M = s.M := by
  rw [after_eq, State.endInstr_M, (opRun_frame cfg i.op i.mode (ready i s)).mem h, ready_M]

theorem allows_imm_of_storer : ∀ o ∈ storers, o.allows .IMM = false := by decide

theorem mem_storers_or_mem_pushers {o : Op} {m : Mode} (h : o ∈ memWriters m) : o ∈ storers ∨ o ∈ pushers := by
  rw [memWriters] at h
  split at h <;> revert o <;> decide

theorem allows_imp_of_storer : ∀ o ∈ storers, o ∈ memWriters .imp → o.allows .IMP = false := by decide

theorem shift_not_mem_memWriters_imp : ∀ o ∈ [Op.ASL, .LSR, .ROL, .ROR], o ∉ memWriters .imp := by decide

/-- In IMP nothing but a push writes memory: the shifts then write `A`, and no other storing operation has the mode. -/
theorem memWriters_cases {i : Instr} (h : i.op ∈ memWriters i.mode) :
    (i.op ∈ storers ∧ i.mode ≠ .imp) ∨ i.op ∈ pushers := by
  refine (mem_storers_or_mem_pushers h).imp_left fun hstore => ⟨hstore, fun himp => ?_⟩
  have hallows := op_allows_mode i
  rw [himp] at h hallows
  exact Bool.false_ne_true ((allows_imp_of_storer _ hstore h).symm.trans hallows)

theorem State.memRead_congr {s t : State} (h : s.M = t.M) (a : Word) : s.memRead a = t.memRead a := by
  rw [State.memRead, h, State.memRead]

@[simp] theorem memRead_ready (i : Instr) (s : State) (a : Word) : (ready i s).memRead a = s.memRead a :=
  State.memRead_congr (ready_M i s) a

theorem after_memRead_of_storer {i : Instr} (s : State) {a : Word} (h : i.op ∈ storers)
    (ha : a ≠ effAddr i.mode s) : (after i s).memRead a = s.memRead a := by
  have hImm : i.mode.kind ≠ .IMM := mode_ne_imm i.op rfl (allows_imm_of_storer _ h)
  rw [after_eq, State.memRead_endInstr, opRun_memRead_of_storer h, memRead_ready]
  rwa [ready_addrAbs, effAddr_beginInstr _ _ _ _ hImm]

theorem after_memRead_of_pusher {i : Instr} (s : State) {a : Word} (h : i.op ∈ pushers)
    (ha : ∀ sp, a ≠ stackAddr sp) : (after i s).memRead a = s.memRead a := by
  rw [after_eq, State.memRead_endInstr, opRun_memRead_of_pusher h _ _ _ ha, memRead_ready]

/-- Settles O54: an operation outside the list of memory writers leaves the list alone, a storing one every byte but
that at its effective address, a push every byte but those of the stack page. -/
theorem memoryIsWrittenOnlyByStoringInstructions : Obligations.MemoryIsWrittenOnlyByStoringInstructions := by
  intro i s t h
  obtain rfl := exec_next_iff.1 h
  refine ⟨fun a ha => ?_, fun hop => after_M s fun hw => ?_⟩
  · have hw : i.op ∈ memWriters i.mode := by
      by_contra hno
      exact ha (State.memRead_congr (after_M s hno) a)
    obtain ⟨hstore, hmode⟩ | hpush := memWriters_cases hw
    · refine .inl ⟨hstore, hmode, ?_⟩
      by_contra hne
      exact ha (after_memRead_of_storer s hstore hne)
    · refine .inr ⟨hpush, ?_⟩
      by_contra hpage
      exact ha (after_memRead_of_pusher s hpush fun sp hsp => hpage (hsp ▸ stackAddr_page sp))
  · obtain hno | ⟨hshift, himp⟩ := hop
    · exact hno (List.mem_append.2 ((memWriters_cases hw).imp_left And.left))
    · exact shift_not_mem_memWriters_imp _ hshift (himp ▸ hw)

end Sys2Proof.Machine
end

section
/-! The byte order of words (20_memory.md R65, R70). -/

namespace Sys2Proof.Machine

theorem encode_of_two_byte_mode {i : Instr} {w : Word} (h : i.mode ∈ [.abs w, .abx w, .aby w, .ind w]) :
    encode i = [i.opcode, lo w, hi w] := by
  simp only [List.mem_cons, List.not_mem_nil, or_false] at h
  obtain h | h | h | h := h <;> rw [encode, h, Mode.bytes]

/-- The vectors lie above the stack page, so the pushes of a trap leave them as they stood. -/
theorem State.memRead_enterTrap_of_le (s : State) (b : Bool) (v : Word) {a : Word} (h : 0xFFFA ≤ a.toNat) :
    (s.enterTrap b v).memRead a = s.memRead a := by
  have hne (sp : Byte) : a ≠ stackAddr sp := by
    obtain ⟨-, -, -, hlt⟩ := stackAddr_distinct sp
    rintro rfl
    exact hlt.not_ge h
  exact s.memRead_enterTrap b v a (hne _) (hne _) (hne _)

theorem State.enterTrap_PC (s : State) (b : Bool) {v : Word} (hlow : 0xFFFA ≤ v.toNat)
    (hhigh : 0xFFFA ≤ (v + 1).toNat) : (s.enterTrap b v).PC = s.memWord v := by
  have hPC : (s.enterTrap b v).PC = (s.enterTrap b v).memWord v := rfl
  rw [hPC, State.memWord, s.memRead_enterTrap_of_le b v hlow, s.memRead_enterTrap_of_le b v hhigh, State.memWord]

theorem State.lo_hi_of_eq_memWord {s : State} {a w : Word} (h : w = s.memWord a) :
    lo w = s.memRead a ∧ hi w = s.memRead (a + 1) := by
  rw [h]
  exact ⟨lo_word _ _, hi_word _ _⟩

theorem after_brk_PC (s : State) : (after .brk s).PC = s.memWord vectorIRQ := by
  have hvector := State.enterTrap_PC ((ready .brk s).setPC ((ready .brk s).PC + 1)) true (v := vectorIRQ)
    (by decide) (by decide)
  rw [after_eq, State.endInstr_PC, Instr.op, opRun, opBRK, hvector]
  simp only [State.memWord, State.memRead_setPC, memRead_ready]

theorem State.memRead_pushWord_hi (s : State) (w : Word) : (s.pushWord w).memRead (stackAddr s.SP) = hi w := by
  obtain ⟨hne, -⟩ := stackAddr_distinct s.SP
  rw [State.memRead_pushWord, if_neg hne, if_pos rfl]

theorem State.memRead_pushWord_lo (s : State) (w : Word) : (s.pushWord w).memRead (stackAddr (s.SP - 1)) = lo w := by
  rw [State.memRead_pushWord, if_pos rfl]

/-- A pulled word is the one pushed, wherever in the page the stack pointer stands. -/
theorem State.pullWord_pushWord (s : State) (w : Word) :
    (s.pushWord w).pullWord.1 = w ∧ (s.pushWord w).pullWord.2.SP = s.SP := by
  have hhigh : s.SP - 2 + 2 = s.SP := BitVec.sub_add_cancel _ _
  have hlow : s.SP - 2 + 1 = s.SP - 1 := by bv_omega
  rw [State.pullWord_fst, State.pullWord_snd, State.pushWord_SP, hhigh, hlow, s.memRead_pushWord_hi,
    s.memRead_pushWord_lo, word_hi_lo]
  exact ⟨rfl, rfl⟩

/-- Settles O50: a word is made of the byte at the higher address and the byte at the lower one wherever it is read. -/
theorem sixteenBitQuantitiesAreLittleEndian : Obligations.SixteenBitQuantitiesAreLittleEndian := by
  refine ⟨fun i w => encode_of_two_byte_mode, fun s w h => ?_, fun s t h => ?_, fun s t h => ?_, fun s t h => ?_,
    fun s w => ⟨lo_word _ _, fun hw => ?_⟩, fun s z => ⟨lo_word _ _, hi_word _ _⟩, fun s z hY => ?_,
    fun s w => ⟨s.memRead_pushWord_hi w, s.memRead_pushWord_lo w⟩, State.pullWord_pushWord⟩
  · have hbytes := s.encode_fetchInstr_prefix
    rw [s.bytesFrom_longest, encode_of_two_byte_mode h] at hbytes
    simp only [List.cons_prefix_cons] at hbytes
    obtain ⟨-, hlo, hhi, -⟩ := hbytes
    exact ⟨hlo, hhi⟩
  · cases h
    exact State.lo_hi_of_eq_memWord (a := vectorReset) rfl
  · cases h
    exact State.lo_hi_of_eq_memWord (s.enterTrap_PC false (v := vectorNMI) (by decide) (by decide))
  · obtain h | ⟨h, hI⟩ := h
    · obtain rfl := exec_next_iff.1 h
      exact State.lo_hi_of_eq_memWord (after_brk_PC s)
    · cases h
      rw [State.irqEvent, if_neg (by simp [hI])]
      exact State.lo_hi_of_eq_memWord (s.enterTrap_PC false (v := vectorIRQ) (by decide) (by decide))
  · rw [effAddr, hi_word, indirectHigh, if_neg hw]
  · have haddr : effAddr (.izy z) s = s.zeroPagePointer z := by
      rw [effAddr, hY]
      exact BitVec.add_zero _
    rw [haddr]
    exact ⟨lo_word _ _, hi_word _ _⟩

end Sys2Proof.Machine
end

section
/-! The decoder and the encoder are inverse (30_encoding.md R90 to R98): `decode` answers an instruction exactly for the
byte strings that begin with its encoding, and what the opcode byte fixes is read off its row. -/

namespace Sys2Proof

/-- The operand bytes of a row's format are what `decode` reads behind the opcode byte. -/
theorem decode_operand (opc b : Byte) (w : Word) (rest : List Byte) :
    decode (opc :: (rowOf opc).operand b w ++ rest) = .ok ((rowOf opc).make b w, rest) := by
  unfold decode
  cases hrow : rowOf opc <;> simp [hrow, Row.operand, Row.make]

/-- `decode` answers only what the row of the opcode byte makes of the operand that follows. -/
theorem operand_of_decode {opc : Byte} {bs : List Byte} {i : Instr} {rest : List Byte}
    (h : decode (opc :: bs) = .ok (i, rest)) :
    ∃ b w, i = (rowOf opc).make b w ∧ bs = (rowOf opc).operand b w ++ rest := by
  unfold decode at h
  cases hrow : rowOf opc with
  | f1 j n =>
    simp only [hrow] at h
    cases h
    exact ⟨0, 0, rfl, rfl⟩
  | f2 mk n =>
    cases bs with
    | nil => simp [hrow] at h
    | cons b bs =>
      simp only [hrow] at h
      cases h
      exact ⟨b, 0, rfl, rfl⟩
  | f3 mk n =>
    match bs with
    | [] | [_] => simp [hrow] at h
    | l :: hb :: bs =>
      simp only [hrow] at h
      cases h
      exact ⟨0, word hb l, rfl, by simp [Row.operand]⟩

theorem decode_encode (i : Instr) (rest : List Byte) : decode (encode i ++ rest) = .ok (i, rest) := by
  have hdecode := decode_operand i.opcode i.mode.operandByte i.mode.operandWord rest
  rwa [← encode_make_rowOf, make_rowOf_opcode] at hdecode

/-- The byte strings that decode to an instruction are those that begin with its encoding. -/
theorem decode_eq_ok_iff {bs : List Byte} {i : Instr} {rest : List Byte} :
    decode bs = .ok (i, rest) ↔ bs = encode i ++ rest := by
  refine ⟨fun h => ?_, fun h => h ▸ decode_encode i rest⟩
  cases bs with
  | nil => cases h
  | cons opc bs =>
    obtain ⟨b, w, rfl, rfl⟩ := operand_of_decode h
    rw [encode_make_rowOf, List.cons_append]

/-- The row of the opcode byte fixes the operation and the mode, whatever the operand. -/
theorem op_kind_make_rowOf (i : Instr) :
    ((rowOf i.opcode).make 0 0).op = i.op ∧ ((rowOf i.opcode).make 0 0).mode.kind = i.mode.kind := by
  cases i <;> dsimp only [Instr.opcode] <;> exact ⟨rfl, rfl⟩

theorem op_kind_of_opcode_eq {i j : Instr} (h : i.opcode = j.opcode) :
    i.op = j.op ∧ i.mode.kind = j.mode.kind := by
  obtain ⟨hop, hkind⟩ := op_kind_make_rowOf i
  rw [h] at hop hkind
  obtain ⟨hop', hkind'⟩ := op_kind_make_rowOf j
  exact ⟨hop.symm.trans hop', hkind.symm.trans hkind'⟩

@[simp] theorem length_encode (i : Instr) : (encode i).length = i.length := by
  rw [encode, Instr.length]
  cases i.mode <;> rfl

theorem length_eq_of_opcode_eq {i j : Instr} (h : i.opcode = j.opcode) : i.length = j.length := by
  rw [Instr.length, (op_kind_of_opcode_eq h).2, Instr.length]

/-- NOP and the catch-all have no mode but IMP in the table. -/
theorem kind_of_nop_or_xxx {i : Instr} (h : i.op = .NOP ∨ i.op = .XXX) : i.mode.kind = .IMP := by
  have hallows := Machine.op_allows_mode i
  obtain h | h := h <;> simpa [h, Op.allows, Op.modes] using hallows

/-- Settles O1: an instruction is what the row of its opcode byte makes of its operand bytes, which are what follows. -/
theorem decodeInvertsEncode : Obligations.DecodeInvertsEncode :=
  fun i rest => ⟨Machine.op_allows_mode i, decode_encode i rest⟩

/-- Settles O2: `decode` keeps the opcode byte and every operand byte. -/
theorem decodedBytesAreTheEncoding : Obligations.DecodedBytesAreTheEncoding :=
  fun _ _ _ => decode_eq_ok_iff.1

/-- Settles O3: every byte has a row, whose operand lies in the next two bytes and does not change what the row fixes. -/
theorem everyOpcodeByteDecodes : Obligations.EveryOpcodeByteDecodes := by
  refine ⟨fun opc b1 b2 rest => ?_, fun i j h => ?_⟩
  · obtain ⟨tail, htail⟩ := Row.operand_prefix b1 b2 (rowOf opc)
    have hdecode := decode_operand opc b1 (word b2 b1) (tail ++ rest)
    rw [List.cons_append, ← List.append_assoc, htail] at hdecode
    have hencode := encode_make_rowOf opc b1 (word b2 b1)
    exact ⟨_, _, hdecode, (List.cons.inj hencode).1⟩
  · obtain ⟨hop, hkind⟩ := op_kind_of_opcode_eq h
    exact ⟨hop, hkind, congrArg cfg.baseCycles h⟩

/-- Settles O4: the length is that of the mode, which the opcode byte fixes. -/
theorem lengthFollowsFromTheOpcodeByte : Obligations.LengthFollowsFromTheOpcodeByte := by
  refine ⟨fun i => ?_, fun bs i rest h => ?_, fun i j h => ?_, fun i h => ?_⟩
  · rw [length_encode, Instr.length]
    cases i.mode.kind <;> rfl
  · rw [decode_eq_ok_iff.1 h, List.length_append]
  · rw [length_encode, length_encode, length_eq_of_opcode_eq h]
  · rw [length_encode, Instr.length, kind_of_nop_or_xxx h, ModeKind.operandBytes]

/-- Settles O5: each word is the encoding of its instruction. -/
theorem writtenOutWordsDecode : Obligations.WrittenOutWordsDecode := by
  unfold Obligations.WrittenOutWordsDecode
  simp only [decode_eq_ok_iff]
  decide

end Sys2Proof
end

section
/-! The `Clock` event (40_step_and_addressing.md R120, R121, R136, R137): the instruction it runs, and the countdown. -/

namespace Sys2Proof.Machine

theorem State.complete_iff (s : State) : s.complete = true ↔ s.cycles = 0 := beq_iff_eq

/-- Settles O8: the busy phase is the branch of a `Clock` event that runs no instruction. -/
theorem busyClockOnlyCounts : Obligations.BusyClockOnlyCounts := ⟨State.complete_iff, fun _ => step_busy⟩

/-- The bytes at `PC` are an instruction's encoding exactly when it is the one fetched. -/
theorem State.bytesFrom_eq_encode_iff {s : State} {i : Instr} :
    s.bytesFrom s.PC i.length = encode i ↔ s.fetchInstr = i := by
  have hlen : i.length ≤ longest := length_encode i ▸ length_encode_le i
  have hbytes := s.bytesFrom_prefix s.PC hlen
  constructor
  · intro h
    exact State.fetchInstr_of_encode_prefix (h ▸ hbytes)
  · rintro rfl
    have hlength : (s.bytesFrom s.PC s.fetchInstr.length).length = (encode s.fetchInstr).length := by
      simp [State.bytesFrom]
    exact (List.prefix_of_prefix_length_le hbytes s.encode_fetchInstr_prefix hlength.le).eq_of_length hlength

/-- Settles O6: what the bytes at `PC` decode to is the instruction fetched there, and an idle step runs it. -/
theorem stepRunsTheDecodedInstruction : Obligations.StepRunsTheDecodedInstruction := by
  refine ⟨fun s i t hidle hdecode hexec => ?_, fun s => ?_⟩
  · rw [decode_eq_ok_iff, List.append_nil, State.bytesFrom_eq_encode_iff] at hdecode
    rw [step_idle hidle, hdecode, ← exec_next_iff.1 hexec, State.clockTick]
  · rw [decode_eq_ok_iff, List.append_nil, State.bytesFrom_eq_encode_iff]

/-- `k` busy `Clock` events only count (R121). -/
theorem handleAll_clock_of_le {k : Nat} {s : State} (h : k ≤ s.cycles) :
    handleAll (List.replicate k .clock) s = .next ((s.setCycles (s.cycles - k)).setClockCount (s.clockCount + k)) := by
  induction k generalizing s with
  | zero => rfl
  | succ k ih =>
    have hbusy : s.cycles ≠ 0 := by omega
    have hrest : k ≤ s.clockTick.cycles := Nat.le_sub_one_of_lt h
    have hcycles : s.cycles - 1 - k = s.cycles - (k + 1) := by omega
    have hcount : s.clockCount + 1 + k = s.clockCount + (k + 1) := by omega
    rw [List.replicate_succ, handleAll_cons (e := .clock) (step_busy hbusy), ih hrest, State.clockTick_cycles,
      State.clockTick_clockCount, hcycles, hcount]
    rfl

theorem after_clockCount (i : Instr) (s : State) : (after i s).clockCount = s.clockCount := by
  rw [after_eq, State.endInstr_clockCount, opRun_clockCount, ready_clockCount]

end Sys2Proof.Machine
end

section
/-! How long an instruction takes (40_step_and_addressing.md R122, R138; 90_conflicts.md C4). -/

namespace Sys2Proof.Machine

/-- The operations that return the extra-cycle signal and have a mode that can cross a page (R122, D18). -/
abbrev crossSignallers : List Op := [.ADC, .SBC, .AND, .ORA, .EOR, .CMP, .LDA, .LDX, .LDY]

/-- Only the indexed modes of R131, R132 and R135 cross a page. -/
theorem pageCross_of_not_mem {m : Mode} (h : m.kind ∉ [ModeKind.ABX, .ABY, .IZY]) (s : State) :
    pageCross m s = false := by
  cases m
  case abx | aby | izy => simp [Mode.kind] at h
  all_goals rfl

/-- The signal of a NOP (R243) never meets a page cross, since NOP stands in IMP alone. -/
theorem pageCross_and_signal (i : Instr) (s : State) :
    (pageCross i.mode s && (opRun cfg i.op i.mode (ready i s)).2) =
      (decide (i.op ∈ crossSignallers) && pageCross i.mode s) := by
  rw [opRun_signal]
  by_cases hnop : i.op = .NOP
  · have hcross := pageCross_of_not_mem (m := i.mode) (by rw [kind_of_nop_or_xxx (.inl hnop)]; decide) s
    simp only [hcross, Bool.false_and, Bool.and_false]
  · rw [beq_false_of_ne hnop, Bool.false_and, Bool.or_false, Bool.and_comm]

theorem after_cycles_of_ne_rel {i : Instr} (s : State) (h : i.mode.kind ≠ .REL) :
    (after i s).cycles =
      cfg.baseCycles i.opcode + (decide (i.op ∈ crossSignallers) && pageCross i.mode s).toNat := by
  rw [after_eq, State.endInstr_cycles, pageCross_and_signal, opRun_cycles _ _ _ _ (by simpa [isBranch_eq_rel] using h),
    ready_cycles]

/-- A branch adds to its base cycles what the branch itself costs and no page cross of its mode. -/
theorem after_cycles_of_rel {i : Instr} (s : State) (h : i.mode.kind = .REL) :
    ∃ taken, (after i s).cycles = ((ready i s).branch taken).cycles := by
  have hbranch : isBranch i.op = true := by rw [isBranch_eq_rel, h]; rfl
  obtain ⟨f, b, hmem⟩ := exists_branch hbranch
  refine ⟨(ready i s).flag f == b, ?_⟩
  rw [after_eq, opRun_of_mem_branchTable hmem, pageCross_rel h]
  rfl

theorem after_cycles_bounds (i : Instr) (s : State) :
    cfg.baseCycles i.opcode ≤ (after i s).cycles ∧ (after i s).cycles ≤ cfg.baseCycles i.opcode + 2 := by
  by_cases hrel : i.mode.kind = .REL
  · obtain ⟨taken, htaken⟩ := after_cycles_of_rel s hrel
    simpa [htaken] using State.branch_cycles (ready i s) taken
  · rw [after_cycles_of_ne_rel s hrel]
    have hsignal := Bool.toNat_le (decide (i.op ∈ crossSignallers) && pageCross i.mode s)
    omega

/-- Settles O10: a branch costs at most two more, and outside the three crossing modes the condition on the mode is the
page cross itself. -/
theorem instructionLengthBounds : Obligations.InstructionLengthBounds := by
  intro i s t h
  obtain rfl := exec_next_iff.1 h
  obtain ⟨hlower, hupper⟩ := after_cycles_bounds i s
  refine ⟨hlower, hupper, fun hrel => ?_⟩
  rw [after_cycles_of_ne_rel s hrel]
  by_cases hkind : i.mode.kind ∈ [ModeKind.ABX, .ABY, .IZY]
  · simp only [hkind, true_and, Bool.toNat, Bool.cond_eq_ite, Bool.and_eq_true, decide_eq_true_eq, and_comm]
  · simp only [hkind, pageCross_of_not_mem hkind s, false_and, and_false, Bool.and_false, if_false, Bool.toNat_false]

theorem after_cycles_pos (i : Instr) (s : State) : 1 ≤ (after i s).cycles :=
  (cfg_wellFormed.1 i.opcode).trans (after_cycles_bounds i s).1

/-- Settles O9: the first event leaves what one event of the countdown from the instruction's result would leave. -/
theorem effectsComeFirstThenTheCountdown : Obligations.EffectsComeFirstThenTheCountdown := by
  intro s t hidle hexec
  obtain rfl := exec_next_iff.1 hexec
  refine ⟨after_cycles_pos _ s, fun k hk hle => ?_⟩
  obtain ⟨k, rfl⟩ := Nat.exists_eq_add_of_le' hk
  have hbusy : (after s.fetchInstr s).cycles ≠ 0 := Nat.ne_of_gt (after_cycles_pos _ s)
  have hcount := handleAll_clock_of_le hle
  rw [List.replicate_succ, handleAll_cons (e := .clock) (step_busy hbusy), after_clockCount] at hcount
  rw [List.replicate_succ, handleAll_cons (e := .clock) (step_idle hidle), hcount]

end Sys2Proof.Machine
end

section
/-! SUPPORT. Effective addresses as numbers (40_step_and_addressing.md R124 to R135, 20_memory.md R70). -/

namespace Sys2Proof.Machine

theorem zext16_eq_ofNat (b : Byte) : zext16 b = BitVec.ofNat 16 b.toNat := by
  rw [← BitVec.toNat_inj, toNat_zext16, BitVec.toNat_ofNat, Nat.mod_eq_of_lt (b.isLt.trans (by decide))]

theorem toNat_add_zext16 (w : Word) (b : Byte) : (w + zext16 b).toNat = (w.toNat + b.toNat) % 65536 := by
  rw [BitVec.toNat_add, toNat_zext16]

/-- Both bytes of a zero-page pointer lie in the zero page (D19). -/
theorem State.toNat_zeroPagePointer (s : State) (b : Byte) :
    (s.zeroPagePointer b).toNat = (s.memRead (BitVec.ofNat 16 b.toNat)).toNat +
      256 * (s.memRead (BitVec.ofNat 16 ((b.toNat + 1) % 256))).toNat := by
  have hnext : (b + 1).toNat = (b.toNat + 1) % 256 := BitVec.toNat_add b 1
  rw [State.zeroPagePointer, toNat_word, zext16_eq_ofNat, zext16_eq_ofNat, hnext, Nat.add_comm, Nat.mul_comm]

/-- Adding an index byte changes the high byte exactly when the low bytes carry, also past 0xFFFF. -/
theorem hi_add_zext16_ne_iff (w : Word) (b : Byte) : hi (w + zext16 b) ≠ hi w ↔ 255 < (lo w).toNat + b.toNat := by
  have hw := w.isLt
  have hb := b.isLt
  rw [ne_eq, ← BitVec.toNat_inj, toNat_hi, toNat_hi, toNat_lo, toNat_add_zext16]
  omega

theorem after_addrAbs_of_mode {i : Instr} {m : Mode} (s : State) (hm : i.mode = m) (hImm : m.kind ≠ .IMM)
    (hRel : m.kind ≠ .REL) : (after i s).addrAbs = effAddr m s := by
  subst hm
  rw [after_addrAbs_of_ne_rel s hRel, effAddr_beginInstr _ _ _ _ hImm]

theorem after_addrAbs_of_imm {i : Instr} {v : Byte} (s : State) (hm : i.mode = .imm v) :
    (after i s).addrAbs = s.PC + 1 := by
  rw [after_addrAbs_of_ne_rel s (by rw [hm]; nofun), hm]
  rfl

end Sys2Proof.Machine
end

section
/-! The obligations on the addressing modes (40_step_and_addressing.md R123 to R135). -/

namespace Sys2Proof.Machine

/-- Settles O12, one lemma on numbers for each way an address is made. -/
theorem addressingModesLeaveTheirAddress : Obligations.AddressingModesLeaveTheirAddress := by
  intro i s t h
  obtain rfl := exec_next_iff.1 h
  refine ⟨fun hm => ⟨?_, ?_⟩, fun v hm => ?_, fun z hm => ?_, fun z hm => ?_, fun z hm => ?_, fun d hm => ?_,
    fun w hm => ?_, fun w hm => ?_, fun w hm => ?_, fun w hm => ?_, fun z hm => ?_, fun z hm => ?_⟩
  · rw [after_fetched_of_fetching s (.inl hm), hm]
    rfl
  · rw [after_addrAbs_of_mode s hm nofun nofun, effAddr]
  · rw [after_addrAbs_of_imm s hm]
    exact BitVec.toNat_add s.PC 1
  · rw [after_addrAbs_of_mode s hm nofun nofun, effAddr, toNat_zext16]
  · rw [after_addrAbs_of_mode s hm nofun nofun, effAddr, toNat_zext16, BitVec.toNat_add]
  · rw [after_addrAbs_of_mode s hm nofun nofun, effAddr, toNat_zext16, BitVec.toNat_add]
  · rw [after_addrRel, ready_addrRel_of_rel s hm]
    exact BitVec.toInt_signExtend_of_le (by decide)
  · rw [after_addrAbs_of_mode s hm nofun nofun, effAddr]
  · rw [after_addrAbs_of_mode s hm nofun nofun, effAddr, toNat_add_zext16]
  · rw [after_addrAbs_of_mode s hm nofun nofun, effAddr, toNat_add_zext16]
  · rw [after_addrAbs_of_mode s hm nofun nofun, effAddr, toNat_word, indirectHigh, Nat.add_comm, Nat.mul_comm]
  · rw [after_addrAbs_of_mode s hm nofun nofun, effAddr, State.toNat_zeroPagePointer, BitVec.toNat_add,
      Nat.mod_add_mod]
  · rw [after_addrAbs_of_mode s hm nofun nofun, effAddr, toNat_add_zext16, State.toNat_zeroPagePointer]

/-- Settles O13: the signal compares the high bytes, which differ exactly when the low bytes carry. -/
theorem pageCrossSignalIsTheCarryOfTheLowByte : Obligations.PageCrossSignalIsTheCarryOfTheLowByte := by
  intro s
  refine ⟨fun w => ⟨rfl, bne_iff_ne, bne_iff_ne.trans (hi_add_zext16_ne_iff w s.X)⟩,
    fun w => ⟨rfl, bne_iff_ne, bne_iff_ne.trans (hi_add_zext16_ne_iff w s.Y)⟩, fun z => ?_, fun m hm => ?_⟩
  · have hcarry := hi_add_zext16_ne_iff (s.zeroPagePointer z) s.Y
    rw [State.zeroPagePointer, lo_word] at hcarry
    exact bne_iff_ne.trans hcarry
  · rw [resolve_signal, pageCross_of_not_mem hm]

theorem allows_imm_of_nonFetcher : ∀ o ∈ nonFetchers, o.allows .IMM = false := by decide

theorem memRead_of_fetchInstr_imm {s : State} {v : Byte} (h : s.fetchInstr.mode = .imm v) :
    s.memRead (s.PC + 1) = v := by
  have hbytes := s.encode_fetchInstr_prefix
  rw [s.bytesFrom_longest, encode, h, Mode.bytes] at hbytes
  simp only [List.cons_prefix_cons] at hbytes
  obtain ⟨-, himm, -⟩ := hbytes
  exact himm.symm

/-- Settles O14: no operation that skips `Fetch` has the mode IMM. -/
theorem immediateOperandIsTheByteAtItsAddress : Obligations.ImmediateOperandIsTheByteAtItsAddress := by
  intro s v hm
  have hfetches : s.fetchInstr.op ∉ nonFetchers := fun hop =>
    mode_ne_imm _ rfl (allows_imm_of_nonFetcher _ hop) (by rw [hm]; rfl)
  refine ⟨memRead_of_fetchInstr_imm hm, _, exec_next _ s, after_addrAbs_of_imm s hm, ?_⟩
  rw [after_fetched_of_fetching s (.inr hfetches), hm]
  rfl

end Sys2Proof.Machine
end

section
/-! SUPPORT. Rows of the table, registers by name and the end of an instruction: the shared terms of the obligations on
instructions (30_encoding.md R96, R97; 40_step_and_addressing.md R122). -/

namespace Sys2Proof.Machine

/-- An instruction is a row of the table when its opcode byte and its operand bytes are those of the row; for a row of
the matrix the three hypotheses hold by evaluation. -/
theorem tableRow_of_bytes {i : Instr} {opc : Byte} {bs : List Byte} {base : Nat} (hopc : i.opcode = opc := by rfl)
    (hbs : i.mode.bytes = bs := by rfl) (hbase : cfg.baseCycles opc = base := by rfl) :
    tableRow i i.op i.mode (opc :: bs) base := by
  subst hopc hbs hbase
  exact ⟨rfl, rfl, rfl, rfl⟩

/-- The same where the operand is an address, low byte first (R101). -/
theorem tableRow_of_word {i : Instr} {opc l h : Byte} {base : Nat} (hopc : i.opcode = opc := by rfl)
    (hword : i.mode.bytes = [lo (word h l), hi (word h l)] := by rfl) (hbase : cfg.baseCycles opc = base := by rfl) :
    tableRow i i.op i.mode [opc, l, h] base :=
  tableRow_of_bytes hopc (by rw [hword, lo_word, hi_word]) hbase

/-- Writes a register by its name, as `State.reg` reads it. -/
def State.setReg (s : State) : Reg → Byte → State
  | .A => s.setA
  | .X => s.setX
  | .Y => s.setY
  | .SP => s.setSP

theorem State.reg_setReg (s : State) (r q : Reg) (v : Byte) :
    (s.setReg r v).reg q = if q = r then v else s.reg q := by
  cases r <;> cases q <;> rfl

@[simp] theorem State.setReg_PC (s : State) (r v) : (s.setReg r v).PC = s.PC := by cases r <;> rfl
@[simp] theorem State.setReg_fetched (s : State) (r v) : (s.setReg r v).fetched = s.fetched := by cases r <;> rfl
@[simp] theorem State.setReg_cycles (s : State) (r v) : (s.setReg r v).cycles = s.cycles := by cases r <;> rfl
@[simp] theorem State.flag_setReg (s : State) (r v f) : (s.setReg r v).flag f = s.flag f := by cases r <;> rfl
@[simp] theorem State.memRead_setReg (s : State) (r v a) : (s.setReg r v).memRead a = s.memRead a := by
  cases r <;> rfl

@[simp] theorem State.reg_setZN (s : State) (v) (r : Reg) : (s.setZN v).reg r = s.reg r := by cases r <;> rfl
@[simp] theorem State.reg_memWrite (s : State) (a v) (r : Reg) : (s.memWrite a v).reg r = s.reg r := by
  cases r <;> rfl
@[simp] theorem State.reg_endInstr (s : State) (e) (r : Reg) : (s.endInstr e).reg r = s.reg r := by cases r <;> rfl
@[simp] theorem reg_fetch (m : Mode) (s : State) (r : Reg) : (fetch m s).reg r = s.reg r := by
  cases r <;> simp [State.reg]
@[simp] theorem reg_ready (i : Instr) (s : State) (r : Reg) : (ready i s).reg r = s.reg r := by
  cases r <;> simp [State.reg]

/-- What an instruction leaves, from what its operation leaves and signals. -/
theorem after_of_opRun {i : Instr} {s v : State} {signal : Bool}
    (h : opRun cfg i.op i.mode (ready i s) = (v, signal)) :
    after i s = v.endInstr (pageCross i.mode s && signal) := by rw [after_eq, h]

/-- An operation that writes neither `PC` nor `cycles` goes on to the next instruction. -/
theorem goesOn_of_opRun {i : Instr} {s v : State} {signal : Bool}
    (h : opRun cfg i.op i.mode (ready i s) = (v, signal)) (hPC : v.PC = (ready i s).PC)
    (hcycles : v.cycles = (ready i s).cycles) : goesOn i s (after i s) signal := by
  rw [goesOn, after_of_opRun h, State.endInstr_PC, hPC, ready_PC, State.endInstr_cycles, hcycles, ready_cycles,
    Bool.and_comm]
  exact ⟨rfl, rfl⟩

/-- The end of the instruction sets `U` and no other flag. -/
theorem keepsFlagsBut_of_opRun {i : Instr} {s v : State} {signal : Bool} {fs : List Flag}
    (h : opRun cfg i.op i.mode (ready i s) = (v, signal)) (hflag : ∀ f ∉ fs, v.flag f = (ready i s).flag f) :
    keepsFlagsBut fs s (after i s) := by
  refine ⟨after_flag_U i s, fun f hU hf => ?_⟩
  rw [after_of_opRun h, State.flag_endInstr, if_neg hU, hflag f hf, flag_ready, if_neg hU]

theorem setsZN_endInstr_setZN (s : State) (v : Byte) (e : Bool) : setsZN ((s.setZN v).endInstr e) v := by
  constructor
  · simp [isZero_eq]
  · simp [isNegative]

end Sys2Proof.Machine
end

section
/-! The obligations on loads, stores and transfers (41_load_store_transfer.md R150 to R161). -/

namespace Sys2Proof.Machine

/-- The operation of a load or a transfer: the byte `v` goes to the register `r`, and `Z` and `N` are set from it. -/
def State.copyTo (s : State) (r : Reg) (v : Byte) : State := (s.setReg r v).setZN v

/-- From `s` to `t` the instruction `i` has copied the byte `v` to the register `r`, set `Z` and `N` from it and changed
no other register, flag or byte of memory. -/
structure Copied (i : Instr) (r : Reg) (v : Byte) (signal : Bool) (s t : State) : Prop where
  reg : t.reg r = v
  zn : setsZN t v
  regs : keepsRegsBut [r] s t
  flags : keepsFlagsBut [.Z, .N] s t
  mem : keepsMemBut [] s t
  fetched : t.fetched = operandOf i.mode s
  goesOn : goesOn i s t signal

theorem copied_of_opRun {i : Instr} {r : Reg} {v : Byte} {signal : Bool} {s : State}
    (h : opRun cfg i.op i.mode (ready i s) = ((fetch i.mode (ready i s)).copyTo r v, signal)) :
    Copied i r v signal s (after i s) where
  reg := by simp [after_of_opRun h, State.copyTo, State.reg_setReg]
  zn := after_of_opRun h ▸ setsZN_endInstr_setZN _ _ _
  regs := fun q hq => by simp [after_of_opRun h, State.copyTo, State.reg_setReg, List.ne_of_not_mem_cons hq]
  flags := keepsFlagsBut_of_opRun h fun f hf => by
    obtain ⟨hZ, hN⟩ : f ≠ .Z ∧ f ≠ .N := by simpa using hf
    simp [State.copyTo, hZ, hN]
  mem := fun a _ => by simp [after_of_opRun h, State.copyTo]
  fetched := by simp [after_of_opRun h, State.copyTo, fetch_ready]
  goesOn := goesOn_of_opRun h (by simp [State.copyTo]) (by simp [State.copyTo])

/-- A load copies the byte its `Fetch` reads, and signals (R150 to R152, D18). -/
theorem exec_load {i : Instr} {o : Op} {r : Reg} (s : State) (hop : i.op = o)
    (hload : ∀ m u, opRun cfg o m u = ((fetch m u).copyTo r (fetch m u).fetched, true)) :
    ∃ t, exec i s = .next t ∧ t.reg r = operandOf i.mode s ∧ setsZN t (operandOf i.mode s) ∧
      keepsRegsBut [r] s t ∧ keepsFlagsBut [.Z, .N] s t ∧ keepsMemBut [] s t ∧
      t.fetched = operandOf i.mode s ∧ goesOn i s t true := by
  have h := copied_of_opRun (hop ▸ hload i.mode (ready i s))
  rw [fetch_ready] at h
  exact ⟨_, exec_next i s, h.reg, h.zn, h.regs, h.flags, h.mem, h.fetched, h.goesOn⟩

/-- Settles O15: each load is one `Fetch` and one copy. -/
theorem loadsCopyTheOperand : Obligations.LoadsCopyTheOperand :=
  ⟨fun _ => tableRow_of_bytes, fun _ => tableRow_of_bytes, fun _ => tableRow_of_bytes, fun _ _ => tableRow_of_word,
    fun _ => tableRow_of_bytes, fun _ => tableRow_of_bytes, fun _ _ => tableRow_of_word, fun _ _ => tableRow_of_word,
    fun _ => tableRow_of_bytes, fun _ => tableRow_of_bytes, fun _ _ => tableRow_of_word, fun _ => tableRow_of_bytes,
    fun _ _ => tableRow_of_word, fun _ => tableRow_of_bytes, fun _ => tableRow_of_bytes, fun _ _ => tableRow_of_word,
    fun _ => tableRow_of_bytes, fun _ _ => tableRow_of_word,
    fun _ s hop => exec_load (r := .A) s hop fun _ _ => rfl,
    fun _ s hop => exec_load (r := .X) s hop fun _ _ => rfl,
    fun _ s hop => exec_load (r := .Y) s hop fun _ _ => rfl⟩

theorem ready_addrAbs_of_storer {i : Instr} (s : State) (h : i.op ∈ storers) :
    (ready i s).addrAbs = effAddr i.mode s := by
  rw [ready_addrAbs, effAddr_beginInstr _ _ _ _ (mode_ne_imm i.op rfl (allows_imm_of_storer _ h))]

/-- A store writes one register to the byte at the effective address and signals nothing (R153 to R155, D17). -/
theorem exec_store {i : Instr} {o : Op} {r : Reg} (s : State) (hop : i.op = o) (hstorer : o ∈ storers)
    (hnofetch : o ∈ nonFetchers) (hstore : ∀ m u, opRun cfg o m u = (u.memWrite u.addrAbs (u.reg r), false)) :
    ∃ t, exec i s = .next t ∧ t.memRead (effAddr i.mode s) = s.reg r ∧ keepsMemBut [effAddr i.mode s] s t ∧
      keepsRegsBut [] s t ∧ keepsFlagsBut [] s t ∧ t.fetched = s.fetched ∧ goesOn i s t false := by
  subst hop
  have h := hstore i.mode (ready i s)
  refine ⟨_, exec_next i s, ?_, fun a ha => after_memRead_of_storer s hstorer (List.ne_of_not_mem_cons ha),
    fun q _ => ?_, keepsFlagsBut_of_opRun h fun _ _ => rfl, after_fetched_of_nonFetchers s hnofetch,
    goesOn_of_opRun h rfl rfl⟩
  · simp [after_of_opRun h, ready_addrAbs_of_storer s hstorer]
  · simp [after_of_opRun h]

/-- Settles O16: each store is one bus write of its register at `addr_abs`. -/
theorem storesWriteOneByte : Obligations.StoresWriteOneByte :=
  ⟨fun _ => tableRow_of_bytes, fun _ => tableRow_of_bytes, fun _ _ => tableRow_of_word, fun _ => tableRow_of_bytes,
    fun _ => tableRow_of_bytes, fun _ _ => tableRow_of_word, fun _ _ => tableRow_of_word, fun _ => tableRow_of_bytes,
    fun _ _ => tableRow_of_word, fun _ => tableRow_of_bytes, fun _ => tableRow_of_bytes, fun _ _ => tableRow_of_word,
    fun _ => tableRow_of_bytes,
    fun _ s hop => exec_store (r := .A) s hop (by decide) (by decide) fun _ _ => rfl,
    fun _ s hop => exec_store (r := .X) s hop (by decide) (by decide) fun _ _ => rfl,
    fun _ s hop => exec_store (r := .Y) s hop (by decide) (by decide) fun _ _ => rfl⟩

/-- A transfer copies the register `q` and signals nothing (R156 to R160). -/
theorem exec_transfer {i : Instr} {o : Op} {q r : Reg} (s : State) (hop : i.op = o) (himp : o.modes = [.IMP])
    (htransfer : ∀ m u, opRun cfg o m u = (u.copyTo r (u.reg q), false)) :
    ∃ t, exec i s = .next t ∧ t.reg r = s.reg q ∧ setsZN t (s.reg q) ∧ keepsRegsBut [r] s t ∧
      keepsFlagsBut [.Z, .N] s t ∧ keepsMemBut [] s t ∧ goesOn i s t false := by
  have hfetch : fetch i.mode (ready i s) = ready i s := by rw [mode_eq_imp o hop himp, fetch]
  have h : Copied i r (s.reg q) false s (after i s) :=
    copied_of_opRun (by rw [hop, htransfer, hfetch, reg_ready])
  exact ⟨_, exec_next i s, h.reg, h.zn, h.regs, h.flags, h.mem, h.goesOn⟩

/-- TXS writes `SP` and no flag (R161). -/
theorem exec_txs (s : State) : ∃ t, exec .txs s = .next t ∧ t.SP = s.X ∧ keepsRegsBut [.SP] s t ∧
    keepsFlagsBut [] s t ∧ keepsMemBut [] s t ∧ goesOn .txs s t false := by
  have h : opRun cfg Instr.txs.op Instr.txs.mode (ready .txs s) = ((ready .txs s).setReg .SP s.X, false) := by
    rw [← ready_X .txs s]
    rfl
  refine ⟨_, exec_next .txs s, ?_, fun r hr => ?_, keepsFlagsBut_of_opRun h fun _ _ => State.flag_setReg _ _ _ _,
    fun a _ => ?_, goesOn_of_opRun h (State.setReg_PC _ _ _) (State.setReg_cycles _ _ _)⟩
  · rw [after_of_opRun h, State.endInstr_SP, State.setReg, State.setSP_SP]
  · simp [after_of_opRun h, State.reg_setReg, List.ne_of_not_mem_cons hr]
  · simp [after_of_opRun h]

/-- Settles O17: each transfer but TXS is one copy from a register. -/
theorem transfersCopyOneRegister : Obligations.TransfersCopyOneRegister :=
  ⟨tableRow_of_bytes, tableRow_of_bytes, tableRow_of_bytes, tableRow_of_bytes, tableRow_of_bytes, tableRow_of_bytes,
    fun s => exec_transfer (q := .A) (r := .X) s rfl rfl fun _ _ => rfl,
    fun s => exec_transfer (q := .A) (r := .Y) s rfl rfl fun _ _ => rfl,
    fun s => exec_transfer (q := .X) (r := .A) s rfl rfl fun _ _ => rfl,
    fun s => exec_transfer (q := .Y) (r := .A) s rfl rfl fun _ _ => rfl,
    fun s => exec_transfer (q := .SP) (r := .X) s rfl rfl fun _ _ => rfl, exec_txs⟩

end Sys2Proof.Machine
end

section
/-! SUPPORT. The adds and compares of 42_logic_arith.md as numbers, and what its operations leave alone. -/

namespace Sys2Proof.Machine

/-- The sum of two signed bytes and a carry overflows when the summands have one sign and the result the other. -/
theorem overflow_eq_decide {a m r : Byte} {c : Nat} (hc : c ≤ 1) (hr : r.toNat = (a.toNat + m.toNat + c) % 256) :
    overflow a m r = decide (a.toInt + m.toInt + c < -128 ∨ 127 < a.toInt + m.toInt + c) := by
  have hmsb : overflow a m r = ((~~~(a ^^^ m)) &&& (a ^^^ r)).msb := rfl
  have ha := a.isLt
  have hm := m.isLt
  rw [hmsb, BitVec.msb_and, BitVec.msb_not, BitVec.msb_xor, BitVec.msb_xor, BitVec.msb_eq_decide,
    BitVec.msb_eq_decide, BitVec.msb_eq_decide, hr, BitVec.toInt_eq_toNat_cond, BitVec.toInt_eq_toNat_cond,
    Bool.eq_iff_iff]
  simp only [Nat.ofNat_pos, decide_true, Bool.true_and, Bool.and_eq_true, Bool.not_eq_true', bne_eq_false_iff_eq,
    bne_iff_ne, ne_eq, decide_eq_decide, decide_eq_true_eq]
  split <;> split <;> omega

theorem toInt_complement (v : Byte) : (v ^^^ 0xFF).toInt = -1 - v.toInt := by
  have hv := v.isLt
  rw [BitVec.toInt_eq_toNat_cond, BitVec.toInt_eq_toNat_cond, toNat_complement]
  split <;> split <;> omega

theorem lo_zext16 (v : Byte) : lo (zext16 v) = v := by
  rw [← BitVec.toNat_inj, toNat_lo, toNat_zext16, Nat.mod_eq_of_lt v.isLt]

/-- A difference of bytes is the low byte of their wide difference. -/
theorem lo_zext16_sub_zext16 (r m : Byte) : lo (zext16 r - zext16 m) = r - m := by
  have hr := r.isLt
  have hm := m.isLt
  rw [← BitVec.toNat_inj, toNat_lo, BitVec.toNat_sub, BitVec.toNat_sub, toNat_zext16, toNat_zext16]
  omega

theorem isZero_sub (r m : Byte) : isZero (r - m) = decide (r = m) := by
  simp only [isZero_eq, sub_eq_zero]

@[simp] theorem State.addWithCarry_A (s : State) (v) : (s.addWithCarry v).A = lo (s.addWithCarry v).temp := rfl

/-- The flags an add sets, from its own wide sum and result (R174). -/
theorem State.flag_addWithCarry (s : State) (v : Byte) :
    (s.addWithCarry v).flag .C = carryOut (s.addWithCarry v).temp ∧
      (s.addWithCarry v).flag .V = overflow s.A v (s.addWithCarry v).A ∧
      (s.addWithCarry v).flag .Z = isZero (s.addWithCarry v).A ∧
      (s.addWithCarry v).flag .N = isNegative (s.addWithCarry v).A := by
  simp [State.addWithCarry]

/-- The flags a compare sets (R176 to R178). -/
theorem State.flag_compareWith (s : State) (r : Byte) :
    (s.compareWith r).flag .C = notBorrow r s.fetched ∧
      (s.compareWith r).flag .Z = isZero (r - s.fetched) ∧
      (s.compareWith r).flag .N = isNegative (r - s.fetched) := by
  simp [State.compareWith, lo_zext16_sub_zext16]

/-- From `s` to `t` the byte `v` and the carry have been added to `A`, with the flags of R174. -/
structure Added (v : Byte) (s t : State) : Prop where
  temp : t.temp.toNat = s.A.toNat + v.toNat + (s.flag .C).toNat
  result : t.A.toNat = (s.A.toNat + v.toNat + (s.flag .C).toNat) % 256
  carry : t.flag .C = decide (255 < s.A.toNat + v.toNat + (s.flag .C).toNat)
  overflow : t.flag .V = decide (s.A.toInt + v.toInt + (s.flag .C).toNat < -128 ∨
    127 < s.A.toInt + v.toInt + (s.flag .C).toNat)
  zn : setsZN t t.A

theorem State.added_addWithCarry (s : State) (v : Byte) : Added v s (s.addWithCarry v) := by
  obtain ⟨hC, hV, hZ, hN⟩ := s.flag_addWithCarry v
  have htemp := s.toNat_addWithCarry_temp v
  have hresult : (s.addWithCarry v).A.toNat = (s.A.toNat + v.toNat + (s.flag .C).toNat) % 256 := by
    rw [State.addWithCarry_A, toNat_lo, htemp]
  exact ⟨htemp, hresult, by rw [hC, carryOut, htemp], hV.trans (overflow_eq_decide (Bool.toNat_le _) hresult), hZ, hN⟩

theorem setsZN_endInstr {t : State} {v : Byte} {e : Bool} : setsZN (t.endInstr e) v ↔ setsZN t v := by simp [setsZN]

/-- An instruction whose operation is the add of `v` has added it. -/
theorem added_of_opRun {i : Instr} {s : State} {v : Byte}
    (h : (opRun cfg i.op i.mode (ready i s)).1 = (fetch i.mode (ready i s)).addWithCarry v) :
    Added v s (after i s) := by
  have hadd := (fetch i.mode (ready i s)).added_addWithCarry v
  rw [after_eq, h]
  exact ⟨by simpa using hadd.temp, by simpa using hadd.result, by simpa using hadd.carry, by simpa using hadd.overflow,
    setsZN_endInstr.2 hadd.zn⟩

/-- The operations of 42_logic_arith.md. -/
def logicArith : List Op := [.AND, .ORA, .EOR, .BIT, .ADC, .SBC, .CMP, .CPX, .CPY]

theorem fetches_and_goes_on_of_logicArith : ∀ o ∈ logicArith,
    o ∈ fetchers ∧ o ∉ pcWriters ∧ isBranch o = false ∧ o ∉ storers ∧ o ∉ pushers := by decide

/-- What an instruction of 42_logic_arith.md leaves alone, from the lists of writers. -/
theorem after_frame_of_logicArith {i : Instr} {o : Op} {rs : List Reg} {fs : List Flag} (s : State) (hop : i.op = o)
    (ho : o ∈ logicArith) (hreg : ∀ r, r ∉ rs → o ∉ regWriters i.mode r) (hflag : ∀ f, f ∉ fs → o ∉ flagWriters f) :
    keepsRegsBut rs s (after i s) ∧ keepsFlagsBut fs s (after i s) ∧ keepsMemBut [] s (after i s) ∧
      (after i s).fetched = operandOf i.mode s ∧ goesOn i s (after i s) (decide (o ∈ crossSignallers)) := by
  subst hop
  obtain ⟨hfetch, hpc, hbranch, hstore, hpush⟩ := fetches_and_goes_on_of_logicArith _ ho
  have hmem : i.op ∉ memWriters i.mode := fun h => (mem_storers_or_mem_pushers h).elim hstore hpush
  refine ⟨fun r hr => after_reg s (hreg r hr), ⟨after_flag_U i s, fun f hU hf => after_flag s hU (hflag f hf)⟩,
    fun a _ => State.memRead_congr (after_M s hmem) a, ?_, after_PC s hpc, after_cycles_of_ne_rel s ?_⟩
  · rw [after_fetched, if_pos hfetch]
  · simpa [isBranch_eq_rel] using hbranch

end Sys2Proof.Machine
end

section
/-! The obligations on logic, adds and compares (42_logic_arith.md R170 to R178). -/

namespace Sys2Proof.Machine

/-- AND, ORA and EOR are a copy to `A`, as a load is, of the value of `f` on `A` and the operand (R170 to R172, D18). -/
theorem exec_logic {i : Instr} {o : Op} (f : Byte → Byte → Byte) (s : State) (hop : i.op = o)
    (hlogic : ∀ m u, opRun cfg o m u = ((fetch m u).copyTo .A (f (fetch m u).A (fetch m u).fetched), true)) :
    ∃ t, exec i s = .next t ∧ t.A = f s.A (operandOf i.mode s) ∧ setsZN t (f s.A (operandOf i.mode s)) ∧
      keepsRegsBut [.A] s t ∧ keepsFlagsBut [.Z, .N] s t ∧ keepsMemBut [] s t ∧
      t.fetched = operandOf i.mode s ∧ goesOn i s t true := by
  have h := copied_of_opRun (hop ▸ hlogic i.mode (ready i s))
  rw [fetch_ready, fetch_A, ready_A] at h
  exact ⟨_, exec_next i s, h.reg, h.zn, h.regs, h.flags, h.mem, h.fetched, h.goesOn⟩

/-- Settles O18: each of the three is one `Fetch` and one copy of its bitwise result to `A`. -/
theorem logicCombinesAccumulatorAndOperand : Obligations.LogicCombinesAccumulatorAndOperand :=
  ⟨fun _ => tableRow_of_bytes, fun _ => tableRow_of_bytes, fun _ => tableRow_of_bytes, fun _ _ => tableRow_of_word,
    fun _ => tableRow_of_bytes, fun _ => tableRow_of_bytes, fun _ _ => tableRow_of_word, fun _ _ => tableRow_of_word,
    fun _ => tableRow_of_bytes, fun _ => tableRow_of_bytes, fun _ => tableRow_of_bytes, fun _ _ => tableRow_of_word,
    fun _ => tableRow_of_bytes, fun _ => tableRow_of_bytes, fun _ _ => tableRow_of_word, fun _ _ => tableRow_of_word,
    fun _ => tableRow_of_bytes, fun _ => tableRow_of_bytes, fun _ => tableRow_of_bytes, fun _ _ => tableRow_of_word,
    fun _ => tableRow_of_bytes, fun _ => tableRow_of_bytes, fun _ _ => tableRow_of_word, fun _ _ => tableRow_of_word,
    fun _ s hop => exec_logic (· &&& ·) s hop fun _ _ => rfl,
    fun _ s hop => exec_logic (· ||| ·) s hop fun _ _ => rfl,
    fun _ s hop => exec_logic (· ^^^ ·) s hop fun _ _ => rfl⟩

/-- BIT leaves the bitwise and in `temp` and takes its three flags from it and from the operand (R173). -/
theorem exec_bit {i : Instr} (s : State) (hop : i.op = .BIT) : ∃ t, exec i s = .next t ∧
    t.flag .Z = decide (s.A &&& operandOf i.mode s = 0) ∧
    t.flag .N = (operandOf i.mode s).getLsbD 7 ∧ t.flag .V = (operandOf i.mode s).getLsbD 6 ∧
    keepsRegsBut [] s t ∧ keepsFlagsBut [.Z, .N, .V] s t ∧ keepsMemBut [] s t ∧
    t.temp = zext16 (s.A &&& operandOf i.mode s) ∧ t.fetched = operandOf i.mode s ∧ goesOn i s t false := by
  obtain ⟨hregs, hflags, hmem, hfetched, hgoesOn⟩ := after_frame_of_logicArith (rs := []) (fs := [.Z, .N, .V]) s hop
    (by decide) (by simp [Reg.forall_iff]) (by simp [Flag.forall_iff])
  refine ⟨_, exec_next i s, ?_, ?_, ?_, hregs, hflags, hmem, ?_, hfetched, hgoesOn⟩ <;>
    simp [after_eq, hop, opRun, opBIT, fetch_ready, isZero_eq, lo_zext16]

/-- Settles O19: the low byte of `temp` is the bitwise and itself. -/
theorem bitTestsTheOperand : Obligations.BitTestsTheOperand :=
  ⟨fun _ => tableRow_of_bytes, fun _ _ => tableRow_of_word, fun _ => exec_bit⟩

/-- ADC and SBC write `A` and the four flags of an add. -/
theorem after_frame_of_add {i : Instr} {o : Op} (s : State) (hop : i.op = o) (ho : o = .ADC ∨ o = .SBC) :
    keepsRegsBut [.A] s (after i s) ∧ keepsFlagsBut [.C, .Z, .V, .N] s (after i s) ∧ keepsMemBut [] s (after i s) ∧
      (after i s).fetched = operandOf i.mode s ∧ goesOn i s (after i s) true := by
  rcases ho with rfl | rfl
  all_goals
    exact after_frame_of_logicArith s hop (by decide) (by simp [Reg.forall_iff]) (by simp [Flag.forall_iff])

theorem added_of_adc {i : Instr} (s : State) (hop : i.op = .ADC) : Added (operandOf i.mode s) s (after i s) :=
  added_of_opRun (by rw [hop, ← fetch_ready]; rfl)

theorem added_of_sbc {i : Instr} (s : State) (hop : i.op = .SBC) :
    Added (operandOf i.mode s ^^^ 0xFF) s (after i s) :=
  added_of_opRun (by rw [hop, ← fetch_ready]; rfl)

/-- Settles O20: ADC is the add of the operand itself. -/
theorem addWithCarry : Obligations.AddWithCarry :=
  ⟨fun _ => tableRow_of_bytes, fun _ => tableRow_of_bytes, fun _ => tableRow_of_bytes, fun _ _ => tableRow_of_word,
    fun _ => tableRow_of_bytes, fun _ => tableRow_of_bytes, fun _ _ => tableRow_of_word, fun _ _ => tableRow_of_word,
    fun i s hop =>
      have h := added_of_adc s hop
      ⟨_, exec_next i s, h.temp, h.result, h.carry, h.overflow, h.zn, after_frame_of_add s hop (.inl rfl)⟩⟩

/-- Subtraction by the complement: adding `255 - b` and the carry is subtracting `b` and the borrow (R175). -/
theorem exec_sbc {i : Instr} (s : State) (hop : i.op = .SBC) : ∃ t, exec i s = .next t ∧
    t.temp.toNat = s.A.toNat + (255 - (operandOf i.mode s).toNat) + (s.flag .C).toNat ∧
    (t.A.toNat : Int) = ((s.A.toNat : Int) - (operandOf i.mode s).toNat - (1 - (s.flag .C).toNat)) % 256 ∧
    t.flag .C = decide (0 ≤ (s.A.toNat : Int) - (operandOf i.mode s).toNat - (1 - (s.flag .C).toNat)) ∧
    t.flag .V = decide (s.A.toInt - (operandOf i.mode s).toInt - (1 - (s.flag .C).toNat) < -128 ∨
      127 < s.A.toInt - (operandOf i.mode s).toInt - (1 - (s.flag .C).toNat)) ∧
    setsZN t t.A ∧
    keepsRegsBut [.A] s t ∧ keepsFlagsBut [.C, .Z, .V, .N] s t ∧ keepsMemBut [] s t ∧
    t.fetched = operandOf i.mode s ∧ goesOn i s t true := by
  obtain ⟨htemp, hresult, hcarry, hoverflow, hzn⟩ := added_of_sbc s hop
  have hb := (operandOf i.mode s).isLt
  rw [toNat_complement] at htemp hresult hcarry
  rw [toInt_complement] at hoverflow
  refine ⟨_, exec_next i s, htemp, ?_, ?_, ?_, hzn, after_frame_of_add s hop (.inr rfl)⟩
  · omega
  · rw [hcarry, decide_eq_decide]
    omega
  · rw [hoverflow, decide_eq_decide]
    omega

/-- Settles O21: SBC is the add of the complemented operand. -/
theorem subtractWithBorrow : Obligations.SubtractWithBorrow :=
  ⟨fun _ => tableRow_of_bytes, fun _ => tableRow_of_bytes, fun _ => tableRow_of_bytes, fun _ _ => tableRow_of_word,
    fun _ => tableRow_of_bytes, fun _ => tableRow_of_bytes, fun _ _ => tableRow_of_word, fun _ _ => tableRow_of_word,
    fun _ => exec_sbc⟩

/-- The compares write three flags and no register. -/
theorem after_frame_of_compare {i : Instr} {o : Op} (s : State) (hop : i.op = o) (ho : o ∈ [.CMP, .CPX, .CPY]) :
    keepsRegsBut [] s (after i s) ∧ keepsFlagsBut [.C, .Z, .N] s (after i s) ∧ keepsMemBut [] s (after i s) ∧
      (after i s).fetched = operandOf i.mode s ∧ goesOn i s (after i s) (decide (o ∈ crossSignallers)) := by
  simp only [List.mem_cons, List.not_mem_nil, or_false] at ho
  rcases ho with rfl | rfl | rfl
  all_goals
    exact after_frame_of_logicArith s hop (by decide) (by simp [Reg.forall_iff]) (by simp [Flag.forall_iff])

/-- The compares, each of one register `r` (R176 to R178). -/
theorem exec_compare {i : Instr} {o : Op} {r : Reg} (s : State) (hop : i.op = o) (ho : o ∈ [.CMP, .CPX, .CPY])
    (hcompare : ∀ m u, (opRun cfg o m u).1 = (fetch m u).compareWith ((fetch m u).reg r)) :
    ∃ t, exec i s = .next t ∧
      t.flag .C = decide ((operandOf i.mode s).toNat ≤ (s.reg r).toNat) ∧
      t.flag .Z = decide (s.reg r = operandOf i.mode s) ∧
      t.flag .N = (s.reg r - operandOf i.mode s).getLsbD 7 ∧
      (t.temp.toNat : Int) = (((s.reg r).toNat : Int) - (operandOf i.mode s).toNat) % 65536 ∧
      keepsRegsBut [] s t ∧ keepsFlagsBut [.C, .Z, .N] s t ∧ keepsMemBut [] s t ∧
      t.fetched = operandOf i.mode s ∧ goesOn i s t (decide (o ∈ crossSignallers)) := by
  have hrun : (opRun cfg i.op i.mode (ready i s)).1 = (fetch i.mode (ready i s)).compareWith (s.reg r) := by
    rw [hop, hcompare, reg_fetch, reg_ready]
  have htemp := (fetch i.mode (ready i s)).toNat_compareWith_temp (s.reg r)
  obtain ⟨hC, hZ, hN⟩ := (fetch i.mode (ready i s)).flag_compareWith (s.reg r)
  rw [fetch_ready] at htemp hC hZ hN
  refine ⟨_, exec_next i s, ?_, ?_, ?_, ?_, after_frame_of_compare s hop ho⟩ <;> rw [after_eq, hrun]
  · rw [State.flag_endInstr, if_neg nofun, hC, notBorrow]
  · rw [State.flag_endInstr, if_neg nofun, hZ, isZero_sub]
  · rw [State.flag_endInstr, if_neg nofun, hN, isNegative]
  · have hb := (operandOf i.mode s).isLt
    rw [State.endInstr_temp, htemp]
    omega

/-- Settles O22: the three differ in the register and in the signal. -/
theorem comparesSetCarryZeroNegative : Obligations.ComparesSetCarryZeroNegative :=
  ⟨fun _ => tableRow_of_bytes, fun _ => tableRow_of_bytes, fun _ => tableRow_of_bytes, fun _ _ => tableRow_of_word,
    fun _ => tableRow_of_bytes, fun _ => tableRow_of_bytes, fun _ _ => tableRow_of_word, fun _ _ => tableRow_of_word,
    fun _ => tableRow_of_bytes, fun _ => tableRow_of_bytes, fun _ _ => tableRow_of_word,
    fun _ => tableRow_of_bytes, fun _ => tableRow_of_bytes, fun _ _ => tableRow_of_word,
    fun _ s hop => exec_compare (r := .A) s hop (by decide) fun _ _ => rfl,
    fun _ s hop => exec_compare (r := .X) s hop (by decide) fun _ _ => rfl,
    fun _ s hop => exec_compare (r := .Y) s hop (by decide) fun _ _ => rfl⟩

end Sys2Proof.Machine
end

section
/-! SUPPORT. Nothing an instruction computes looks at `D` (42_logic_arith.md R180): to write `D` before an update of the
state is to write it after. -/

namespace Sys2Proof.Machine

theorem State.setFlag_setFlag (s : State) (f : Flag) (a b : Bool) : (s.setFlag f a).setFlag f b = s.setFlag f b := by
  have hP : (s.setFlag f a).setFlag f b = s.setP (putFlag (putFlag s.P f a) f b) := rfl
  rw [hP, State.setFlag]
  refine congrArg s.setP (status_ext fun k => ?_)
  by_cases hk : k = f <;> simp [hk]

theorem State.setFlag_comm (s : State) {f g : Flag} (h : f ≠ g) (a b : Bool) :
    (s.setFlag f a).setFlag g b = (s.setFlag g b).setFlag f a := by
  refine congrArg s.setP (status_ext fun k => ?_)
  by_cases hk : k = f
  · subst hk
    simp [State.setFlag, h]
  · simp [State.setFlag, hk]

variable (s : State) (b : Bool)

@[simp] theorem State.setA_setFlag_D (v) : (s.setFlag .D b).setA v = (s.setA v).setFlag .D b := rfl
@[simp] theorem State.setX_setFlag_D (v) : (s.setFlag .D b).setX v = (s.setX v).setFlag .D b := rfl
@[simp] theorem State.setY_setFlag_D (v) : (s.setFlag .D b).setY v = (s.setY v).setFlag .D b := rfl
@[simp] theorem State.setSP_setFlag_D (v) : (s.setFlag .D b).setSP v = (s.setSP v).setFlag .D b := rfl
@[simp] theorem State.setPC_setFlag_D (v) : (s.setFlag .D b).setPC v = (s.setPC v).setFlag .D b := rfl
@[simp] theorem State.setOpcode_setFlag_D (v) : (s.setFlag .D b).setOpcode v = (s.setOpcode v).setFlag .D b := rfl
@[simp] theorem State.setTemp_setFlag_D (v) : (s.setFlag .D b).setTemp v = (s.setTemp v).setFlag .D b := rfl
@[simp] theorem State.setCycles_setFlag_D (v) : (s.setFlag .D b).setCycles v = (s.setCycles v).setFlag .D b := rfl
@[simp] theorem State.memWrite_setFlag_D (a v) : (s.setFlag .D b).memWrite a v = (s.memWrite a v).setFlag .D b := rfl
@[simp] theorem State.push_setFlag_D (v) : (s.setFlag .D b).push v = (s.push v).setFlag .D b := rfl
@[simp] theorem State.pushWord_setFlag_D (w) : (s.setFlag .D b).pushWord w = (s.pushWord w).setFlag .D b := rfl
@[simp] theorem State.pull_setFlag_D : (s.setFlag .D b).pull = (s.pull.1, s.pull.2.setFlag .D b) := rfl
@[simp] theorem State.pullWord_setFlag_D : (s.setFlag .D b).pullWord = (s.pullWord.1, s.pullWord.2.setFlag .D b) := rfl

@[simp] theorem State.setFlag_setFlag_D {f : Flag} (a) (h : f ≠ .D) :
    (s.setFlag .D b).setFlag f a = (s.setFlag f a).setFlag .D b := s.setFlag_comm h.symm b a

@[simp] theorem State.setZN_setFlag_D (v) : (s.setFlag .D b).setZN v = (s.setZN v).setFlag .D b := by
  simp [State.setZN]

@[simp] theorem State.branch_setFlag_D (taken) :
    (s.setFlag .D b).branch taken = (s.branch taken).setFlag .D b := by
  cases taken <;> rfl

@[simp] theorem fetch_setFlag_D (m : Mode) : fetch m (s.setFlag .D b) = (fetch m s).setFlag .D b := by cases m <;> rfl

@[simp] theorem writeBack_setFlag_D (m : Mode) (v) :
    writeBack m v (s.setFlag .D b) = (writeBack m v s).setFlag .D b := by
  cases m <;> rfl

@[simp] theorem State.carryWord_setFlag_D : (s.setFlag .D b).carryWord = s.carryWord := by simp [State.carryWord]

@[simp] theorem State.addWithCarry_setFlag_D (v) :
    (s.setFlag .D b).addWithCarry v = (s.addWithCarry v).setFlag .D b := by
  simp [State.addWithCarry]

@[simp] theorem State.compareWith_setFlag_D (r) :
    (s.setFlag .D b).compareWith r = (s.compareWith r).setFlag .D b := by
  simp [State.compareWith]

@[simp] theorem State.beginInstr_setFlag_D (c opc) :
    (s.setFlag .D b).beginInstr c opc = (s.beginInstr c opc).setFlag .D b := by
  simp [State.beginInstr]

@[simp] theorem State.endInstr_setFlag_D (e) : (s.setFlag .D b).endInstr e = (s.endInstr e).setFlag .D b := by
  simp [State.endInstr]

theorem resolve_setFlag_D (m : Mode) : (resolve m (s.setFlag .D b)).1 = (resolve m s).1.setFlag .D b := by
  cases m <;> rfl

@[simp] theorem ready_setFlag_D (i : Instr) : ready i (s.setFlag .D b) = (ready i s).setFlag .D b := by
  rw [ready, State.beginInstr_setFlag_D, resolve_setFlag_D, ready]

theorem pageCross_setFlag_D (m : Mode) : pageCross m (s.setFlag .D b) = pageCross m s := by cases m <;> rfl

/-- The operations that read or write `D` as a part of `P`. -/
abbrev statusOps : List Op := [.PHP, .BRK, .PLP, .RTI, .CLD, .SED]

theorem opRun_setFlag_D (c : Config) {o : Op} (h : o ∉ statusOps) (m : Mode) :
    opRun c o m (s.setFlag .D b) = ((opRun c o m s).1.setFlag .D b, (opRun c o m s).2) := by
  cases o
  case LDA | LDX | LDY => simp [opRun, opLDA, opLDX, opLDY]
  case STA | STX | STY => simp [opRun, opSTA, opSTX, opSTY]
  case TAX | TAY | TXA | TYA | TSX | TXS => simp [opRun, opTAX, opTAY, opTXA, opTYA, opTSX, opTXS]
  case AND | ORA | EOR | BIT => simp [opRun, opAND, opORA, opEOR, opBIT]
  case ADC | SBC => simp [opRun, opADC, opSBC]
  case CMP | CPX | CPY => simp [opRun, opCMP, opCPX, opCPY]
  case ASL | LSR | ROL | ROR => simp [opRun, opASL, opLSR, opROL, opROR]
  case INC | DEC => simp [opRun, opINC, opDEC]
  case INX | INY | DEX | DEY => simp [opRun, opINX, opINY, opDEX, opDEY]
  case BCC | BCS | BEQ | BNE | BMI | BPL | BVC | BVS =>
    simp [opRun, opBCC, opBCS, opBEQ, opBNE, opBMI, opBPL, opBVC, opBVS]
  case JMP | JSR | RTS => simp [opRun, opJMP, opJSR, opRTS]
  case PHA | PLA => simp [opRun, opPHA, opPLA]
  case CLC | CLI | CLV | SEC | SEI => simp [opRun, opCLC, opCLI, opCLV, opSEC, opSEI]
  case NOP | XXX => simp [opRun, opNOP, opXXX]
  all_goals exact absurd (by decide) h

/-- PLP, RTI, CLD and SED write `D` whatever it holds. -/
theorem opRun_setFlag_D_of_overwrites (c : Config) {o : Op} (h : o ∈ [Op.PLP, .RTI, .CLD, .SED]) (m : Mode) :
    opRun c o m (s.setFlag .D b) = opRun c o m s := by
  cases o
  case PLP => rfl
  case RTI => simp only [opRun, opRTI, State.returnFromTrap_eq]; rfl
  case CLD | SED => simp only [opRun, opCLD, opSED, State.setFlag_setFlag]
  all_goals exact absurd h (by decide)

theorem after_setFlag_D {i : Instr} (h : i.op ∉ statusOps) : after i (s.setFlag .D b) = (after i s).setFlag .D b := by
  rw [after_eq, ready_setFlag_D, opRun_setFlag_D _ _ _ h, pageCross_setFlag_D, State.endInstr_setFlag_D, after_eq]

theorem after_setFlag_D_of_overwrites {i : Instr} (h : i.op ∈ [Op.PLP, .RTI, .CLD, .SED]) :
    after i (s.setFlag .D b) = after i s := by
  rw [after_eq, ready_setFlag_D, opRun_setFlag_D_of_overwrites _ _ _ h, pageCross_setFlag_D, after_eq]

end Sys2Proof.Machine
end

section
/-! The obligation on the decimal flag (42_logic_arith.md R180). -/

namespace Sys2Proof.Machine

/-- Settles O56: writing `D` commutes with every operation but those on the whole of `P` or on `D` itself, and ADC adds
in binary. -/
theorem decimalFlagHasNoEffect : Obligations.DecimalFlagHasNoEffect := by
  refine ⟨fun i s t b hop h => ?_, fun i s b hop => ?_, fun s _ hA hC => ?_⟩
  · rw [exec_next, exec_next_iff.1 h, after_setFlag_D s b hop]
  · rw [exec_next, exec_next, after_setFlag_D_of_overwrites s b hop]
  · have h := (added_of_adc (i := .adcImm 0x01) s rfl).result
    rw [hA, hC] at h
    exact ⟨_, exec_next _ s, BitVec.eq_of_toNat_eq h⟩

end Sys2Proof.Machine
end

section
/-! SUPPORT. The operations of 43_shift_incdec.md that change their operand: each leaves its wide result in `temp`,
writes the low byte of it back to where the operand came from, and sets `Z` and `N` from that byte. -/

namespace Sys2Proof.Machine

/-- The shifts and rotates: they write `A` in IMP and memory in their other modes. -/
def shifts : List Op := [.ASL, .LSR, .ROL, .ROR]

/-- The increment and the decrement of a byte of memory. -/
def memorySteps : List Op := [.INC, .DEC]

/-- The operations that write their result over their operand. -/
def modifiers : List Op := memorySteps ++ shifts

/-- The bit of the operand a shift or rotate moves out to `C` (R190 to R193). -/
def droppedBit : Op → Nat
  | .ASL | .ROL => 7
  | _ => 0

theorem fetches_and_stores_of_modifier : ∀ o ∈ modifiers,
    o ∈ fetchers ∧ o ∈ storers ∧ o ∉ pcWriters ∧ isBranch o = false ∧ o ∉ crossSignallers ∧
      (o.allows .IMP = true → o ∈ shifts) := by
  decide

theorem not_mem_regWriters_of_modifier {o : Op} {m : Mode} {r : Reg} (ho : o ∈ modifiers) (hr : r = .A → m ≠ .imp) :
    o ∉ regWriters m r := by
  cases r with
  | A =>
    rw [regWriters, if_neg (hr rfl)]
    revert o
    decide
  | X | Y | SP =>
    rw [regWriters]
    revert o
    decide

theorem not_mem_flagWriters_of_shift {o : Op} {f : Flag} (ho : o ∈ shifts) (hf : f ∉ [Flag.C, .Z, .N]) :
    o ∉ flagWriters f := by
  revert o
  cases f
  case C | Z | N => exact absurd (by decide) hf
  all_goals decide

theorem not_mem_flagWriters_of_memoryStep {o : Op} {f : Flag} (ho : o ∈ memorySteps) (hf : f ∉ [Flag.Z, .N]) :
    o ∉ flagWriters f := by
  revert o
  cases f
  case Z | N => exact absurd (by decide) hf
  all_goals decide

theorem allows_imp_of_memoryStep : ∀ o ∈ memorySteps, o.allows .IMP = false := by decide

theorem mode_ne_imp {i : Instr} (h : i.op.allows .IMP = false) : i.mode ≠ .imp := by
  intro hm
  have hallows := op_allows_mode i
  rw [hm] at hallows
  exact Bool.false_ne_true (h.symm.trans hallows)

theorem flag_C_opRun_of_shift {o : Op} (ho : o ∈ shifts) (c : Config) (m : Mode) (u : State) :
    (opRun c o m u).1.flag .C = (fetch m u).fetched.getLsbD (droppedBit o) := by
  cases o
  case ASL | LSR | ROL | ROR => simp [opRun, opASL, opLSR, opROL, opROR, droppedBit]
  all_goals exact absurd ho (by decide)

theorem opRun_A_of_shift {o : Op} (ho : o ∈ shifts) (c : Config) (u : State) :
    (opRun c o .imp u).1.A = lo (opRun c o .imp u).1.temp := by
  cases o
  case ASL | LSR | ROL | ROR => rfl
  all_goals exact absurd ho (by decide)

theorem opRun_memRead_addrAbs_of_modifier {o : Op} {m : Mode} (ho : o ∈ modifiers) (hm : m ≠ .imp) (c : Config)
    (u : State) : (opRun c o m u).1.memRead u.addrAbs = lo (opRun c o m u).1.temp := by
  cases o
  case INC | DEC => simp [opRun, opINC, opDEC]
  case ASL | LSR | ROL | ROR => simp [opRun, opASL, opLSR, opROL, opROR, memRead_writeBack, hm]
  all_goals exact absurd ho (by decide)

theorem setsZN_opRun_of_modifier {o : Op} (ho : o ∈ modifiers) (c : Config) (m : Mode) (u : State) :
    setsZN (opRun c o m u).1 (lo (opRun c o m u).1.temp) := by
  cases o
  case INC | DEC => simp [setsZN, opRun, opINC, opDEC, isZero_eq, isNegative]
  case ASL | LSR | ROL | ROR => simp [setsZN, opRun, opASL, opLSR, opROL, opROR, isZero_eq, isNegative]
  all_goals exact absurd ho (by decide)

theorem writesBack_of_modifier {i : Instr} (s : State) (ho : i.op ∈ modifiers) :
    writesBack i s (after i s) (lo (after i s).temp) := by
  obtain ⟨-, hstore, -, -, -, hshift⟩ := fetches_and_stores_of_modifier _ ho
  by_cases hm : i.mode = .imp
  · have hop : i.op ∈ shifts := hshift (by simpa [hm, Mode.kind] using op_allows_mode i)
    have hresult := opRun_A_of_shift hop cfg (ready i s)
    have hmem : i.op ∉ memWriters i.mode := hm ▸ shift_not_mem_memWriters_imp _ hop
    have hreg : ∀ r ∉ [Reg.A], i.op ∉ regWriters i.mode r := fun r hr =>
      not_mem_regWriters_of_modifier ho fun hA => absurd hA (List.ne_of_not_mem_cons hr)
    rw [writesBack, if_pos hm]
    refine ⟨?_, fun r hr => after_reg s (hreg r hr), fun a _ => State.memRead_congr (after_M s hmem) a⟩
    rwa [after_eq, State.endInstr_A, State.endInstr_temp, hm]
  · have hresult := opRun_memRead_addrAbs_of_modifier ho hm cfg (ready i s)
    rw [writesBack, if_neg hm]
    refine ⟨?_, fun r _ => after_reg s (not_mem_regWriters_of_modifier ho fun _ => hm),
      fun a ha => after_memRead_of_storer s hstore (List.ne_of_not_mem_cons ha)⟩
    rwa [after_eq, State.memRead_endInstr, State.endInstr_temp, ← ready_addrAbs_of_storer s hstore]

/-- From `s` to `t` the instruction `i` has written its result over its operand, set `Z` and `N` from it and changed no
flag but those of `fs`. -/
structure Modified (i : Instr) (fs : List Flag) (s t : State) : Prop where
  temp : t.temp.toNat = wideResult s (operandOf i.mode s) i.op
  result : writesBack i s t (lo t.temp)
  zn : setsZN t (lo t.temp)
  flags : keepsFlagsBut fs s t
  fetched : t.fetched = operandOf i.mode s
  goesOn : goesOn i s t false

theorem modified_after {i : Instr} {fs : List Flag} (s : State) (ho : i.op ∈ modifiers)
    (hflag : ∀ f, f ∉ fs → i.op ∉ flagWriters f) : Modified i fs s (after i s) := by
  obtain ⟨hfetch, -, hpc, hbranch, hsignal, -⟩ := fetches_and_stores_of_modifier _ ho
  have hcycles := after_cycles_of_ne_rel (i := i) s (by simpa [isBranch_eq_rel] using hbranch)
  rw [decide_eq_false hsignal] at hcycles
  exact {
    temp := after_temp_toNat i s
    result := writesBack_of_modifier s ho
    zn := by
      rw [after_eq, setsZN_endInstr]
      exact setsZN_opRun_of_modifier ho cfg i.mode (ready i s)
    flags := ⟨after_flag_U i s, fun f hU hf => after_flag s hU (hflag f hf)⟩
    fetched := by rw [after_fetched, if_pos hfetch]
    goesOn := ⟨after_PC s hpc, hcycles⟩ }

/-- A byte shifted right stays a byte, whatever bit enters. -/
theorem wideResult_mod_of_shiftRight {o : Op} (ho : o ∈ [Op.LSR, .ROR]) (s : State) (b : Byte) :
    wideResult s b o % 256 = wideResult s b o := by
  have hb := b.isLt
  have hc := Bool.toNat_le (s.flag .C)
  simp only [List.mem_cons, List.not_mem_nil, or_false] at ho
  apply Nat.mod_eq_of_lt
  rcases ho with rfl | rfl
  · show b.toNat / 2 < 256
    omega
  · show 128 * (s.flag .C).toNat + b.toNat / 2 < 256
    omega

/-- DEC wraps its wide result at 65536, a multiple of 256. -/
theorem wideResult_dec_mod (s : State) (b : Byte) : wideResult s b .DEC % 256 = (b.toNat + 255) % 256 := by
  rw [wideResult]
  omega

theorem toNat_sub_one (b : Byte) : (b - 1).toNat = (b.toNat + 255) % 256 := by
  rw [BitVec.toNat_sub, Nat.add_comm]
  rfl

theorem toNat_lo_after_temp {i : Instr} (s : State) :
    (lo (after i s).temp).toNat = wideResult s (operandOf i.mode s) i.op % 256 := by
  rw [toNat_lo, after_temp_toNat]

end Sys2Proof.Machine
end

section
/-! The obligations on shifts, rotates, increments and decrements (43_shift_incdec.md R190 to R199). -/

namespace Sys2Proof.Machine

/-- A shift or rotate with the result `n` (R190 to R193). -/
theorem exec_shift {i : Instr} {o : Op} {n : Nat} (s : State) (hop : i.op = o) (ho : o ∈ shifts)
    (hn : wideResult s (operandOf i.mode s) o % 256 = n) :
    ∃ t, exec i s = .next t ∧ ∃ r : Byte, r.toNat = n ∧ writesBack i s t r ∧ setsZN t r ∧
      t.flag .C = (operandOf i.mode s).getLsbD (droppedBit o) ∧ keepsFlagsBut [.C, .Z, .N] s t ∧
      t.temp.toNat = wideResult s (operandOf i.mode s) o ∧ t.fetched = operandOf i.mode s ∧ goesOn i s t false := by
  subst hop hn
  have h := modified_after s (List.mem_append_right _ ho) fun _ => not_mem_flagWriters_of_shift ho
  have hC := flag_C_opRun_of_shift ho cfg i.mode (ready i s)
  refine ⟨_, exec_next i s, _, toNat_lo_after_temp s, h.result, h.zn, ?_, h.flags, h.temp, h.fetched, h.goesOn⟩
  rw [after_eq, State.flag_endInstr, if_neg nofun, hC, fetch_ready]

/-- Settles O23: no bit of the operand is lost to the low byte of LSR's wide result. -/
theorem shiftsMoveOneBit : Obligations.ShiftsMoveOneBit :=
  ⟨fun _ => tableRow_of_bytes, tableRow_of_bytes, fun _ _ => tableRow_of_word, fun _ => tableRow_of_bytes,
    fun _ _ => tableRow_of_word,
    fun _ => tableRow_of_bytes, tableRow_of_bytes, fun _ _ => tableRow_of_word, fun _ => tableRow_of_bytes,
    fun _ _ => tableRow_of_word,
    fun _ s hop => exec_shift s hop (by decide) rfl,
    fun _ s hop => exec_shift s hop (by decide) (wideResult_mod_of_shiftRight (by decide) s _)⟩

/-- Settles O24: the rotates are shifts with the old carry in their wide result. -/
theorem rotatesGoThroughCarry : Obligations.RotatesGoThroughCarry :=
  ⟨fun _ => tableRow_of_bytes, tableRow_of_bytes, fun _ _ => tableRow_of_word, fun _ => tableRow_of_bytes,
    fun _ _ => tableRow_of_word,
    fun _ => tableRow_of_bytes, tableRow_of_bytes, fun _ _ => tableRow_of_word, fun _ => tableRow_of_bytes,
    fun _ _ => tableRow_of_word,
    fun _ s hop => exec_shift s hop (by decide) rfl,
    fun _ s hop => exec_shift s hop (by decide) (wideResult_mod_of_shiftRight (by decide) s _)⟩

/-- INC or DEC with the result `n` (R194, R195). -/
theorem exec_memoryStep {i : Instr} {o : Op} {n : Nat} (s : State) (hop : i.op = o) (ho : o ∈ memorySteps)
    (hn : wideResult s (operandOf i.mode s) o % 256 = n) :
    ∃ t, exec i s = .next t ∧ ∃ r : Byte, r.toNat = n ∧ t.memRead (effAddr i.mode s) = r ∧ setsZN t r ∧
      keepsMemBut [effAddr i.mode s] s t ∧ keepsRegsBut [] s t ∧ keepsFlagsBut [.Z, .N] s t ∧
      t.temp.toNat = wideResult s (operandOf i.mode s) o ∧ t.fetched = operandOf i.mode s ∧ goesOn i s t false := by
  subst hop hn
  have h := modified_after s (List.mem_append_left _ ho) fun _ => not_mem_flagWriters_of_memoryStep ho
  have hmode : i.mode ≠ .imp := mode_ne_imp (allows_imp_of_memoryStep _ ho)
  obtain ⟨hwrite, hregs, hmem⟩ := (if_neg hmode).mp h.result
  exact ⟨_, exec_next i s, _, toNat_lo_after_temp s, hwrite, h.zn, hmem, hregs, h.flags, h.temp, h.fetched, h.goesOn⟩

/-- Settles O25: INC and DEC have no mode IMP, so their result goes to memory. -/
theorem incrementAndDecrementMemory : Obligations.IncrementAndDecrementMemory :=
  ⟨fun _ => tableRow_of_bytes, fun _ _ => tableRow_of_word, fun _ => tableRow_of_bytes, fun _ _ => tableRow_of_word,
    fun _ => tableRow_of_bytes, fun _ _ => tableRow_of_word, fun _ => tableRow_of_bytes, fun _ _ => tableRow_of_word,
    fun _ s hop => exec_memoryStep (o := .INC) s hop (by decide) rfl,
    fun _ s hop => exec_memoryStep (o := .DEC) s hop (by decide) (wideResult_dec_mod s _)⟩

/-- INX, INY, DEX and DEY are a copy to a register of the value of `f` on it (R196 to R199). -/
theorem exec_indexStep {i : Instr} {o : Op} {r : Reg} {n : Nat} (f : Byte → Byte) (s : State) (hop : i.op = o)
    (himp : o.modes = [.IMP]) (hcopy : ∀ m u, opRun cfg o m u = (u.copyTo r (f (u.reg r)), false))
    (hf : ∀ b, (f b).toNat = (b.toNat + n) % 256) :
    ∃ t, exec i s = .next t ∧ (t.reg r).toNat = ((s.reg r).toNat + n) % 256 ∧ setsZN t (t.reg r) ∧
      keepsRegsBut [r] s t ∧ keepsFlagsBut [.Z, .N] s t ∧ keepsMemBut [] s t ∧ goesOn i s t false := by
  have hfetch : fetch i.mode (ready i s) = ready i s := by rw [mode_eq_imp o hop himp, fetch]
  have h : Copied i r (f (s.reg r)) false s (after i s) :=
    copied_of_opRun (by rw [hop, hcopy, hfetch, reg_ready])
  refine ⟨_, exec_next i s, ?_, ?_, h.regs, h.flags, h.mem, h.goesOn⟩
  · rw [h.reg, hf]
  · rw [h.reg]
    exact h.zn

/-- Settles O26: each is one copy; to subtract 1 is to add 255 modulo 256. -/
theorem incrementAndDecrementIndex : Obligations.IncrementAndDecrementIndex :=
  ⟨tableRow_of_bytes, tableRow_of_bytes, tableRow_of_bytes, tableRow_of_bytes,
    fun s => exec_indexStep (r := .X) (· + 1) s rfl rfl (fun _ _ => rfl) (BitVec.toNat_add · 1),
    fun s => exec_indexStep (r := .Y) (· + 1) s rfl rfl (fun _ _ => rfl) (BitVec.toNat_add · 1),
    fun s => exec_indexStep (r := .X) (· - 1) s rfl rfl (fun _ _ => rfl) toNat_sub_one,
    fun s => exec_indexStep (r := .Y) (· - 1) s rfl rfl (fun _ _ => rfl) toNat_sub_one⟩

end Sys2Proof.Machine
end

section
/-! SUPPORT. Frames of an instruction from the lists of writers, and what the operations of 44_branch_jump.md and the
push and pull of `A` leave. -/

namespace Sys2Proof.Machine

theorem keepsRegsBut_after {i : Instr} {rs : List Reg} (s : State) (h : ∀ r ∉ rs, i.op ∉ regWriters i.mode r) :
    keepsRegsBut rs s (after i s) := fun r hr => after_reg s (h r hr)

theorem keepsFlagsBut_after {i : Instr} {fs : List Flag} (s : State) (h : ∀ f ∉ fs, i.op ∉ flagWriters f) :
    keepsFlagsBut fs s (after i s) := ⟨after_flag_U i s, fun f hU hf => after_flag s hU (h f hf)⟩

theorem keepsMemBut_after {i : Instr} {ws : List Word} (s : State) (h : i.op ∉ memWriters i.mode) :
    keepsMemBut ws s (after i s) := fun a _ => State.memRead_congr (after_M s h) a

/-- An operation that neither branches nor signals takes its base cycles. -/
theorem after_cycles_of_not_mem_crossSignallers {i : Instr} {n : Nat} (s : State) (hsignal : i.op ∉ crossSignallers)
    (hbranch : isBranch i.op = false) (hbase : cfg.baseCycles i.opcode = n) : (after i s).cycles = n := by
  rw [after_cycles_of_ne_rel s (by simpa [isBranch_eq_rel] using hbranch), decide_eq_false hsignal, hbase]
  rfl

/-- A signed displacement is added to an address modulo 65536 (R210). -/
theorem toNat_add_sext16 (w : Word) (d : Byte) :
    ((w + sext16 d).toNat : Int) = ((w.toNat : Int) + d.toInt) % 65536 := by
  have hd : (sext16 d).toInt = d.toInt := BitVec.toInt_signExtend_of_le (by decide)
  rw [← hd, BitVec.toNat_add, BitVec.toInt_eq_toNat_cond]
  split <;> omega

/-- The start of the page of an address. -/
theorem toNat_and_page (p : Word) : (p &&& 0xFF00).toNat = p.toNat / 256 * 256 := by
  have hshift : p >>> 8 <<< 8 = p &&& 0xFF00 := BitVec.shiftLeft_ushiftRight
  have hp := p.isLt
  rw [← hshift, BitVec.toNat_shiftLeft, BitVec.toNat_ushiftRight, Nat.shiftLeft_eq, Nat.shiftRight_eq_div_pow]
  omega

/-- The high byte of an indirect target stands behind the low one, or at the start of its page (R133). -/
theorem indirectHigh_eq (p : Word) : indirectHigh p =
    if p.toNat % 256 = 255 then BitVec.ofNat 16 (p.toNat - 255) else BitVec.ofNat 16 (p.toNat + 1) := by
  have hlo : lo p = 0xFF ↔ p.toNat % 256 = 255 := by
    rw [← BitVec.toNat_inj, toNat_lo]
    rfl
  simp only [indirectHigh, hlo]
  split
  · next h =>
    have hp := p.isLt
    rw [← BitVec.toNat_inj, toNat_and_page, BitVec.toNat_ofNat]
    omega
  · rw [BitVec.ofNat_add, BitVec.ofNat_toNat, BitVec.setWidth_eq]
    rfl

/-- A taken branch costs one more cycle, and a second one when it leaves the page of the next instruction (R210). -/
theorem State.branch_cycles_eq (s : State) (taken : Bool) : (s.branch taken).cycles =
    s.cycles + if taken then (if hi (s.PC + s.addrRel) = hi s.PC then 1 else 2) else 0 := by
  cases taken with
  | false => rfl
  | true =>
    have hcost : (s.branch true).cycles = s.cycles + 1 + (hi (s.PC + s.addrRel) != hi s.PC).toNat := rfl
    rw [hcost, if_pos rfl]
    split
    · next h => rw [h, bne_self_eq_false]; rfl
    · next h => rw [bne_iff_ne.2 h]; rfl

@[simp] theorem State.reg_branch (s : State) (b) (r : Reg) : (s.branch b).reg r = s.reg r := by
  cases r <;> simp [State.reg]

/-- A branch is one update of the state its mode leaves, on the flag the instruction starts with. -/
theorem opRun_ready_of_mem_branchTable {i : Instr} {f : Flag} {b : Bool} (s : State)
    (hop : (i.op, f, b) ∈ branchTable) :
    opRun cfg i.op i.mode (ready i s) = ((ready i s).branch (s.flag f == b), false) := by
  have hU : f ≠ .U := by rintro rfl; simp [branchTable] at hop
  rw [opRun_of_mem_branchTable hop, flag_ready, if_neg hU]

theorem ready_PC_of_rel {i : Instr} {d : Byte} (s : State) (hm : i.mode = .rel d) : (ready i s).PC = s.PC + 2 := by
  rw [ready_PC, nextPC, Instr.length, hm]
  rfl

theorem after_PC_of_branch {i : Instr} {d : Byte} {f : Flag} {b : Bool} (s : State) (hm : i.mode = .rel d)
    (hop : (i.op, f, b) ∈ branchTable) :
    (after i s).PC = if s.flag f = b then s.PC + 2 + sext16 d else s.PC + 2 := by
  rw [after_of_opRun (opRun_ready_of_mem_branchTable s hop), State.endInstr_PC, State.branch_PC, ready_PC_of_rel s hm,
    ready_addrRel_of_rel s hm]
  simp only [beq_iff_eq]

/-- The page compared is that of the next instruction (D30). -/
theorem after_cycles_of_branch {i : Instr} {d : Byte} {f : Flag} {b : Bool} (s : State) (hm : i.mode = .rel d)
    (hop : (i.op, f, b) ∈ branchTable) : (after i s).cycles =
      2 + if s.flag f = b then (if hi (s.PC + 2 + sext16 d) = hi (s.PC + 2) then 1 else 2) else 0 := by
  have hbranch : isBranch i.op = true := by rw [isBranch_eq_rel, hm]; rfl
  rw [after_of_opRun (opRun_ready_of_mem_branchTable s hop), State.endInstr_cycles, State.branch_cycles_eq,
    ready_PC_of_rel s hm, ready_addrRel_of_rel s hm, ready_cycles, branch_baseCycles hbranch, Bool.and_false]
  simp only [beq_iff_eq, Bool.toNat_false, Nat.add_zero]

/-- JSR pushes the address of its last byte and goes to its operand (R220). -/
theorem after_jsr (w : Word) (s : State) : after (.jsr w) s =
    ((((ready (.jsr w) s).setPC (s.PC + 2)).pushWord (s.PC + 2)).setPC w).endInstr false := by
  have hlast : (ready (.jsr w) s).PC - 1 = s.PC + 2 := by
    rw [ready_PC, BitVec.sub_eq_iff_eq_add, BitVec.add_assoc]
    rfl
  have hop : opRun cfg .JSR (.abs w) (ready (.jsr w) s) =
      ((((ready (.jsr w) s).setPC ((ready (.jsr w) s).PC - 1)).pushWord ((ready (.jsr w) s).PC - 1)).setPC w, false) :=
    rfl
  rw [hlast] at hop
  exact after_of_opRun hop

/-- What a JSR leaves on the stack (R220, D20). -/
theorem after_jsr_stack (w : Word) (s : State) : (after (.jsr w) s).SP = s.SP - 2 ∧
    (after (.jsr w) s).memRead (stackAddr s.SP) = hi (s.PC + 2) ∧
    (after (.jsr w) s).memRead (stackAddr (s.SP - 1)) = lo (s.PC + 2) := by
  have hhigh := ((ready (.jsr w) s).setPC (s.PC + 2)).memRead_pushWord_hi (s.PC + 2)
  have hlow := ((ready (.jsr w) s).setPC (s.PC + 2)).memRead_pushWord_lo (s.PC + 2)
  rw [State.setPC_SP, ready_SP] at hhigh hlow
  refine after_jsr w s ▸ ⟨?_, ?_, ?_⟩
  · rw [State.endInstr_SP, State.setPC_SP, State.pushWord_SP, State.setPC_SP, ready_SP]
  · rw [State.memRead_endInstr, State.memRead_setPC, hhigh]
  · rw [State.memRead_endInstr, State.memRead_setPC, hlow]

/-- RTS pulls a word and goes to the address behind it (R221). -/
theorem after_rts (s : State) : after .rts s =
    (((ready .rts s).setSP (s.SP + 2)).setPC
      (word (s.memRead (stackAddr (s.SP + 2))) (s.memRead (stackAddr (s.SP + 1))) + 1)).endInstr false := by
  have hop : opRun cfg .RTS .imp (ready .rts s) =
      ((ready .rts s).pullWord.2.setPC ((ready .rts s).pullWord.1 + 1), false) := rfl
  rw [State.pullWord_fst, State.pullWord_snd, ready_SP, memRead_ready, memRead_ready] at hop
  exact after_of_opRun hop

/-- Where the two bytes above the stack pointer hold a word, RTS goes to the address behind it. -/
theorem after_rts_of_stack {u : State} {w : Word} {sp : Byte} (hSP : u.SP = sp - 2)
    (hhigh : u.memRead (stackAddr sp) = hi w) (hlow : u.memRead (stackAddr (sp - 1)) = lo w) :
    (after .rts u).PC = w + 1 ∧ (after .rts u).SP = sp := by
  have hup : u.SP + 2 = sp := by bv_omega
  have hnext : u.SP + 1 = sp - 1 := by bv_omega
  rw [after_rts, hup, hnext, hhigh, hlow, word_hi_lo]
  exact ⟨rfl, rfl⟩

/-- PHA is one push (R230). -/
theorem after_pha (s : State) : after .pha s = ((ready .pha s).push s.A).endInstr false := by
  rw [← ready_A .pha s]
  rfl

/-- PLA is one pull to `A` (R232). -/
theorem after_pla (s : State) : after .pla s =
    ((((ready .pla s).setSP (s.SP + 1)).setA (s.memRead (stackAddr (s.SP + 1)))).setZN
      (s.memRead (stackAddr (s.SP + 1)))).endInstr false := by
  rw [← memRead_ready .pla s, ← ready_SP .pla s]
  rfl

/-- The operations of 44_branch_jump.md that test no flag. -/
def jumps : List Op := [.JMP, .JSR, .RTS]

theorem not_mem_flagWriters_of_jump : ∀ o ∈ jumps, ∀ f, o ∉ flagWriters f := by simp [jumps, Flag.forall_iff]

theorem not_crossSignaller_and_not_branch_of_jump :
    ∀ o ∈ jumps, o ∉ crossSignallers ∧ isBranch o = false := by decide

/-- A jump changes no flag and takes its base cycles. -/
theorem after_frame_of_jump {i : Instr} {o : Op} {m : Mode} {bs : List Byte} {n : Nat} {rs : List Reg} (s : State)
    (hrow : tableRow i o m bs n) (ho : o ∈ jumps) (hreg : ∀ r ∉ rs, o ∉ regWriters m r) :
    keepsRegsBut rs s (after i s) ∧ keepsFlagsBut [] s (after i s) ∧ (after i s).cycles = n := by
  obtain ⟨rfl, rfl, -, hbase⟩ := hrow
  obtain ⟨hsignal, hbranch⟩ := not_crossSignaller_and_not_branch_of_jump _ ho
  exact ⟨keepsRegsBut_after s hreg, keepsFlagsBut_after s fun f _ => not_mem_flagWriters_of_jump _ ho f,
    after_cycles_of_not_mem_crossSignallers s hsignal hbranch hbase⟩

end Sys2Proof.Machine
end

section
/-! The obligations on branches, jumps and subroutines (44_branch_jump.md R210 to R222). -/

namespace Sys2Proof.Machine

/-- `Branch` on the flag of a row of the table of branches (R210). -/
theorem exec_branch {i : Instr} {d : Byte} {f : Flag} {b : Bool} (s : State) (hm : i.mode = .rel d)
    (hop : (i.op, f, b) ∈ branchTable) : ∃ t, exec i s = .next t ∧
    (s.flag f ≠ b → t.PC = s.PC + 2 ∧ t.addrAbs = s.addrAbs ∧ t.cycles = 2) ∧
    (s.flag f = b → (t.PC.toNat : Int) = ((s.PC.toNat : Int) + 2 + d.toInt) % 65536 ∧ t.addrAbs = t.PC ∧
      t.cycles = if hi t.PC = hi (s.PC + 2) then 3 else 4) ∧
    t.addrRel = sext16 d ∧ keepsRegsBut [] s t ∧ keepsFlagsBut [] s t ∧ keepsMemBut [] s t := by
  have h := opRun_ready_of_mem_branchTable s hop
  have hPC := after_PC_of_branch s hm hop
  have habs := after_addrAbs_of_branch s hm hop
  have hcycles := after_cycles_of_branch s hm hop
  refine ⟨_, exec_next i s, fun hne => ?_, fun heq => ?_, ?_, fun r _ => ?_,
    keepsFlagsBut_of_opRun h fun _ _ => State.flag_branch _ _ _, fun a _ => ?_⟩
  · rw [if_neg hne] at hPC habs hcycles
    exact ⟨hPC, habs, hcycles⟩
  · rw [if_pos heq] at hPC habs hcycles
    have hnext : (s.PC + 2).toNat = (s.PC.toNat + 2) % 65536 := BitVec.toNat_add s.PC 2
    refine ⟨?_, habs.trans hPC.symm, ?_⟩
    · rw [hPC, toNat_add_sext16, hnext]
      omega
    · rw [hPC, hcycles]
      split <;> rfl
  · rw [after_addrRel, ready_addrRel_of_rel s hm]
  · rw [after_of_opRun h, State.reg_endInstr, State.reg_branch, reg_ready]
  · rw [after_of_opRun h, State.memRead_endInstr, State.memRead_branch, memRead_ready]

/-- Settles O27: the eight branches are the rows of one table of flags and values. -/
theorem branchesTestTheirFlag : Obligations.BranchesTestTheirFlag := by
  refine ⟨fun _ => tableRow_of_bytes, fun _ => tableRow_of_bytes, fun _ => tableRow_of_bytes,
    fun _ => tableRow_of_bytes, fun _ => tableRow_of_bytes, fun _ => tableRow_of_bytes, fun _ => tableRow_of_bytes,
    fun _ => tableRow_of_bytes, fun e he d s => ?_⟩
  have hop : ((e.1 d).op, e.2) ∈ branchTable := List.mem_map_of_mem (f := fun e => ((e.1 d).op, e.2)) he
  have hm : (e.1 d).mode = .rel d := by
    simp only [List.mem_cons, List.not_mem_nil, or_false] at he
    obtain rfl | rfl | rfl | rfl | rfl | rfl | rfl | rfl := he <;> rfl
  exact exec_branch s hm hop

/-- JMP goes to the effective address of its mode (R219). -/
theorem exec_jmp {i : Instr} {m : Mode} {bs : List Byte} {n : Nat} (s : State) (hrow : tableRow i .JMP m bs n) :
    ∃ t, exec i s = .next t ∧ t.PC = effAddr m s ∧ t.cycles = n ∧ t.addrAbs = t.PC ∧
      keepsRegsBut [] s t ∧ keepsFlagsBut [] s t ∧ keepsMemBut [] s t ∧ t.fetched = s.fetched := by
  obtain ⟨hregs, hflags, hcycles⟩ := after_frame_of_jump (rs := []) s hrow (by decide) (by simp [Reg.forall_iff])
  obtain ⟨hop, rfl, -, -⟩ := hrow
  have h : opRun cfg i.op i.mode (ready i s) = ((ready i s).setPC (ready i s).addrAbs, false) := by rw [hop]; rfl
  have htarget : (ready i s).addrAbs = effAddr i.mode s := by
    rw [ready_addrAbs, effAddr_beginInstr _ _ _ _ (mode_ne_imm .JMP hop rfl)]
  refine ⟨_, exec_next i s, ?_, hcycles, ?_, hregs, hflags, keepsMemBut_after s ?_,
    after_fetched_of_nonFetchers s (hop ▸ by decide)⟩
  · rw [after_of_opRun h, State.endInstr_PC, State.setPC_PC, htarget]
  · rw [after_of_opRun h, State.endInstr_addrAbs, State.setPC_addrAbs, State.endInstr_PC, State.setPC_PC]
  · simp [hop]

/-- Settles O28: the target is the effective address, and that of IND is made of the two bytes at its pointer. -/
theorem jumpSetsProgramCounter : Obligations.JumpSetsProgramCounter := by
  refine ⟨fun _ _ => tableRow_of_word, fun _ _ => tableRow_of_word,
    fun w s => exec_jmp (m := .abs w) s (tableRow_of_bytes (opc := 0x4C)), fun p s => ?_⟩
  have hrow : tableRow (.jmpInd p) .JMP (.ind p) (0x6C :: (Mode.ind p).bytes) 5 := tableRow_of_bytes
  obtain ⟨t, hexec, hPC, hrest⟩ := exec_jmp s hrow
  have htarget : t.PC = word (s.memRead (indirectHigh p)) (s.memRead p) := hPC
  refine ⟨t, hexec, ?_, ?_, hrest⟩
  · rw [htarget, lo_word]
  · rw [htarget, hi_word, indirectHigh_eq]

/-- Settles O29: memory changes at the two bytes of the pushed word alone. -/
theorem jumpToSubroutine : Obligations.JumpToSubroutine := by
  refine ⟨fun _ _ => tableRow_of_word, fun w s => ?_⟩
  have hrow : tableRow (.jsr w) .JSR (.abs w) (0x20 :: (Mode.abs w).bytes) 6 := tableRow_of_bytes
  obtain ⟨hSP, hhigh, hlow⟩ := after_jsr_stack w s
  obtain ⟨hregs, hflags, hcycles⟩ :=
    after_frame_of_jump (rs := [.SP]) s hrow (by decide) (by simp [Reg.forall_iff])
  refine ⟨_, exec_next _ s, ?_, hSP, hhigh, hlow, fun a ha => ?_, hregs, hflags,
    after_fetched_of_nonFetchers s ?_, hcycles⟩
  · rw [after_jsr, State.endInstr_PC, State.setPC_PC]
  · obtain ⟨hne, hne'⟩ : a ≠ stackAddr s.SP ∧ a ≠ stackAddr (s.SP - 1) := by simpa using ha
    rw [after_jsr, State.memRead_endInstr, State.memRead_setPC, State.memRead_pushWord, State.setPC_SP, ready_SP,
      if_neg hne', if_neg hne, State.memRead_setPC, memRead_ready]
  · simp [Instr.op]

/-- Settles O30: the pulled word is made of the two bytes above the stack pointer. -/
theorem returnFromSubroutine : Obligations.ReturnFromSubroutine := by
  have hrow : tableRow .rts .RTS .imp [0x60] 6 := tableRow_of_bytes
  refine ⟨hrow, fun s => ?_⟩
  obtain ⟨hregs, hflags, hcycles⟩ :=
    after_frame_of_jump (rs := [.SP]) s hrow (by decide) (by simp [Reg.forall_iff])
  refine ⟨_, exec_next .rts s, ?_, ?_, hregs, hflags, keepsMemBut_after s (by decide), hcycles⟩
  · rw [after_rts, State.endInstr_SP, State.setPC_SP, State.setSP_SP]
  · rw [after_rts, State.endInstr_PC, State.setPC_PC, BitVec.toNat_add, toNat_word, Nat.mul_comm,
      Nat.add_comm (256 * _)]
    rfl

/-- Settles O31: a pull reads the addresses its push wrote. -/
theorem stackPairsRestore : Obligations.StackPairsRestore := by
  refine ⟨fun w s t u hexec hSP hhigh hlow => ?_, fun s t u hexec hSP hbyte => ?_⟩
  · obtain rfl := exec_next_iff.1 hexec
    obtain ⟨hSP', hhigh', hlow'⟩ := after_jsr_stack w s
    obtain ⟨hPC, hback⟩ := after_rts_of_stack (hSP.trans hSP') (hhigh.trans hhigh') (hlow.trans hlow')
    exact ⟨_, exec_next .rts u, hPC.trans (BitVec.add_assoc _ _ _), hback⟩
  · obtain rfl := exec_next_iff.1 hexec
    rw [after_pha, State.endInstr_SP, State.push_SP, ready_SP] at hSP
    rw [after_pha, State.memRead_endInstr, State.memRead_push, ready_SP, if_pos rfl] at hbyte
    have hback : u.SP + 1 = s.SP := hSP ▸ BitVec.sub_add_cancel _ _
    refine ⟨_, exec_next .pla u, ?_⟩
    rw [after_pla, hback, hbyte]
    exact ⟨rfl, rfl⟩

end Sys2Proof.Machine
end

section
/-! SUPPORT. What the operations of 45_stack_flags_system.md leave: a push, a pull, a flag write, a trap entry and
return, and nothing. -/

namespace Sys2Proof.Machine

/-- The stack page lies at 0x0100 (10_state.md R22). -/
theorem stackAddr_eq_ofNat (sp : Byte) : stackAddr sp = BitVec.ofNat 16 (256 + sp.toNat) := by
  rw [stackAddr, zext16_eq_ofNat, BitVec.ofNat_add]
  rfl

/-- The status byte PHP pushes (R231). -/
theorem getFlag_or_break_unused (p : Byte) (f : Flag) :
    getFlag (p ||| 0x30) f = if f = .B ∨ f = .U then true else getFlag p f := by
  cases f <;> simp [getFlag, Flag.bit]

@[simp] theorem State.reg_setFlag (s : State) (f b) (r : Reg) : (s.setFlag f b).reg r = s.reg r := by cases r <;> rfl

/-- From `s` to `t` the instruction `i` has pushed the byte `b` and changed no other byte of memory, register or
flag. -/
structure Pushed (i : Instr) (b : Byte) (s t : State) : Prop where
  top : t.memRead (stackAddr s.SP) = b
  sp : t.SP = s.SP - 1
  mem : keepsMemBut [stackAddr s.SP] s t
  regs : keepsRegsBut [.SP] s t
  flags : keepsFlagsBut [] s t
  goesOn : goesOn i s t false

theorem pushed_of_opRun {i : Instr} {b : Byte} {s : State}
    (h : opRun cfg i.op i.mode (ready i s) = ((ready i s).push b, false)) : Pushed i b s (after i s) where
  top := by simp [after_of_opRun h]
  sp := by simp [after_of_opRun h]
  mem := fun a ha => by simp [after_of_opRun h, List.ne_of_not_mem_cons ha]
  regs := fun r hr => by
    cases r
    case SP => exact absurd rfl (List.ne_of_not_mem_cons hr)
    all_goals simp [after_of_opRun h, State.reg]
  flags := keepsFlagsBut_of_opRun h fun _ _ => State.flag_push _ _ _
  goesOn := goesOn_of_opRun h rfl rfl

/-- PLP is one pull to `P`, of which the end of the instruction sets `U` (R233). -/
theorem after_plp (s : State) : after .plp s =
    ((((ready .plp s).setSP (s.SP + 1)).setP (s.memRead (stackAddr (s.SP + 1)))).setFlag .U true).endInstr false := by
  rw [← memRead_ready .plp s, ← ready_SP .plp s]
  rfl

/-- `Irq` leaves the state as it is exactly when `I` is set: an accepted one sets `I` (60_exceptions.md R263, R265). -/
theorem handle_irq_eq_self_iff (s : State) : handle .irq s = .next s ↔ s.flag .I = true := by
  have hirq : handle .irq s = .next (s.irqEvent cfg) := rfl
  rw [hirq, Host.Outcome.next.injEq]
  refine ⟨fun heq => ?_, fun hI => if_pos hI⟩
  by_contra hI
  have hset : (s.irqEvent cfg).flag .I = true := by simp [State.irqEvent, hI]
  exact hI (heq ▸ hset)

/-- The status byte a trap pushes (60_exceptions.md R268). -/
def State.trapStatus (s : State) (brk : Bool) : Byte := putFlag (putFlag (putFlag s.P .I true) .U true) .B brk

theorem State.getFlag_trapStatus (s : State) (brk : Bool) (f : Flag) : getFlag (s.trapStatus brk) f =
    if f = .B then brk else if f = .I ∨ f = .U then true else s.flag f := by
  cases f <;> simp [State.trapStatus, State.flag]

/-- The frame of a trap: the return address, high byte first, then the status byte (60_exceptions.md R268). -/
theorem State.memRead_enterTrap_frame (s : State) (brk : Bool) (v : Word) :
    (s.enterTrap brk v).memRead (stackAddr s.SP) = hi s.PC ∧
      (s.enterTrap brk v).memRead (stackAddr (s.SP - 1)) = lo s.PC ∧
      (s.enterTrap brk v).memRead (stackAddr (s.SP - 2)) = s.trapStatus brk := by
  obtain ⟨h01, h02, h12, -⟩ := stackAddr_distinct s.SP
  have hread (a : Word) : (s.enterTrap brk v).memRead a =
      if a = stackAddr (s.SP - 2) then s.trapStatus brk else (s.pushWord s.PC).memRead a := by
    rw [← State.pushWord_SP s s.PC]
    exact State.memRead_push _ _ _
  refine ⟨?_, ?_, ?_⟩
  · rw [hread, if_neg h02, State.memRead_pushWord_hi]
  · rw [hread, if_neg h12, State.memRead_pushWord_lo]
  · rw [hread, if_pos rfl]

/-- Trap entry through a vector above the stack page (60_exceptions.md R268, R269). -/
theorem trapTaken_enterTrap (s : State) (brk : Bool) {v : Word} (hlow : 0xFFFA ≤ v.toNat)
    (hhigh : 0xFFFA ≤ (v + 1).toNat) : trapTaken s (s.enterTrap brk v) s.PC brk v := by
  obtain ⟨hret, hret', hstatus⟩ := s.memRead_enterTrap_frame brk v
  refine ⟨s.enterTrap_SP brk v, hret, hret', fun f => ?_, fun f => ?_, s.enterTrap_PC brk hlow hhigh, fun r hr => ?_,
    fun a ha => ?_⟩
  · rw [hstatus, State.getFlag_trapStatus]
  · rw [State.flag_enterTrap]
    cases f <;> simp
  · cases r
    case SP => exact absurd rfl (List.ne_of_not_mem_cons hr)
    all_goals simp [State.reg]
  · obtain ⟨h0, h1, h2⟩ : a ≠ stackAddr s.SP ∧ a ≠ stackAddr (s.SP - 1) ∧ a ≠ stackAddr (s.SP - 2) := by
      simpa only [List.mem_cons, List.not_mem_nil, or_false, not_or] using ha
    exact s.memRead_enterTrap brk v a h0 h1 h2

/-- The end of an instruction sets `U`, which the trap has set, and `cycles`, which is no part of a trap. -/
theorem trapTaken_endInstr {s t : State} {ret v : Word} {brk : Bool} (h : trapTaken s t ret brk v) (e : Bool) :
    trapTaken s (t.endInstr e) ret brk v := by
  obtain ⟨hSP, hret, hret', hstatus, hflag, hPC, hregs, hmem⟩ := h
  refine ⟨hSP, hret, hret', hstatus, fun f => ?_, hPC, fun r hr => ?_, hmem⟩
  · rw [State.flag_endInstr, hflag]
    cases f <;> simp
  · rw [State.reg_endInstr, hregs r hr]

/-- A trap taken from the state its instruction runs in is taken from the state the instruction starts in. -/
theorem trapTaken_of_ready {i : Instr} {s t : State} {w ret v : Word} {brk : Bool}
    (h : trapTaken ((ready i s).setPC w) t ret brk v) : trapTaken s t ret brk v := by
  obtain ⟨hSP, hret, hret', hstatus, hflag, hPC, hregs, hmem⟩ := h
  have hlive (f : Flag) (x : Bool) : (if f = .B then x else if f = .I ∨ f = .U then true
      else ((ready i s).setPC w).flag f) = if f = .B then x else if f = .I ∨ f = .U then true else s.flag f := by
    rw [State.flag_setPC, flag_ready]
    cases f <;> simp
  simp only [State.setPC_SP, ready_SP, State.memRead_setPC, memRead_ready] at hSP hret hret' hstatus hPC hmem
  refine ⟨hSP, hret, hret', fun f => ?_, fun f => ?_, hPC, fun r hr => ?_, fun a ha => ?_⟩
  · rw [hstatus, hlive]
  · rw [hflag, hlive]
  · rw [hregs r hr, ← reg_ready i s r]
    cases r <;> rfl
  · rw [hmem a ha, State.memRead_setPC, memRead_ready]

/-- BRK is a trap entry that returns behind the byte after its opcode (R241, D14). -/
theorem after_brk (s : State) : after .brk s =
    (((ready .brk s).setPC (s.PC + 2)).enterTrap true vectorIRQ).endInstr false := by
  have hret : (ready .brk s).PC + 1 = s.PC + 2 := by
    rw [ready_PC, nextPC, BitVec.add_assoc]
    rfl
  rw [← hret]
  rfl

/-- RTI pulls `P`, then `PC`; the end of the instruction sets `U` (R242). -/
theorem after_rti (s : State) : after .rti s = (ready .rti s).returnFromTrap.endInstr false := rfl

theorem State.flag_returnFromTrap (s : State) (f : Flag) : s.returnFromTrap.flag f =
    if f = .U ∨ f = .B then false else getFlag (s.memRead (stackAddr (s.SP + 1))) f := by
  rw [State.returnFromTrap_eq, State.flag_setPC, State.flag_setP, getFlag_putFlag, getFlag_putFlag]
  cases f <;> rfl

/-- A no-operation does what the start and the end of every instruction do; the signal of NOP meets no page cross. -/
theorem after_of_noOp {i : Instr} (s : State) (h : i.op = .NOP ∨ i.op = .XXX) :
    after i s = (ready i s).endInstr false := by
  have hcross : pageCross i.mode s = false :=
    pageCross_of_not_mem (by rw [kind_of_nop_or_xxx h]; decide) s
  have hrun : (opRun cfg i.op i.mode (ready i s)).1 = ready i s := by
    obtain h | h := h <;> rw [h] <;> rfl
  rw [after_eq, hrun, hcross, Bool.false_and]

end Sys2Proof.Machine
end

section
/-! The obligations on stack, flag and system instructions (45_stack_flags_system.md R230 to R244). -/

namespace Sys2Proof.Machine

/-- Settles O32: PHA is one push of `A`. -/
theorem pushAccumulator : Obligations.PushAccumulator := by
  refine ⟨tableRow_of_bytes, fun s => ?_⟩
  have h : Pushed .pha s.A s (after .pha s) := pushed_of_opRun (by rw [← ready_A .pha s]; rfl)
  refine ⟨_, exec_next .pha s, ?_, ?_, h.mem, h.regs, h.flags, h.goesOn⟩
  · rw [← stackAddr_eq_ofNat, h.top]
  · rw [h.sp, toNat_sub_one]

/-- Settles O33: PHP is one push of the live `P` with `B` and `U` set. -/
theorem pushStatus : Obligations.PushStatus := by
  refine ⟨tableRow_of_bytes, fun s => ?_⟩
  have h : Pushed .php ((ready .php s).P ||| 0x30) s (after .php s) := pushed_of_opRun rfl
  refine ⟨_, exec_next .php s, fun f => ?_, h.sp, h.mem, h.regs, h.flags, h.goesOn⟩
  have hlive : getFlag (ready .php s).P f = if f = .U then true else s.flag f := flag_ready .php s f
  rw [h.top, getFlag_or_break_unused, hlive]
  split
  · rfl
  · next hf => rw [if_neg (not_or.1 hf).2]

/-- Settles O34: PLA is one pull to `A`. -/
theorem pullAccumulator : Obligations.PullAccumulator := by
  refine ⟨tableRow_of_bytes, fun s => ?_⟩
  have hup : (s.SP + 1).toNat = (s.SP.toNat + 1) % 256 := BitVec.toNat_add s.SP 1
  refine ⟨_, exec_next .pla s, ?_, ?_, ?_, keepsRegsBut_after s ?_, keepsFlagsBut_after s ?_,
    keepsMemBut_after s (by decide), goesOn_of_opRun (i := .pla) rfl rfl rfl⟩
  · rw [after_pla, State.endInstr_SP, State.setZN_SP, State.setA_SP, State.setSP_SP, hup]
  · rw [after_pla, State.endInstr_A, State.setZN_A, State.setA_A, stackAddr_eq_ofNat, hup]
  · rw [after_pla]
    exact setsZN_endInstr_setZN _ _ _
  · simp [Reg.forall_iff, Instr.op]
  · simp [Flag.forall_iff, Instr.op]

/-- Settles O35: PLP is one pull to `P`, and `Irq` looks at the `I` it leaves. -/
theorem pullStatus : Obligations.PullStatus := by
  refine ⟨tableRow_of_bytes, fun s => ?_⟩
  have hflag (f : Flag) : (after .plp s).flag f =
      if f = .U then true else getFlag (s.memRead (stackAddr (s.SP + 1))) f := by
    rw [after_plp, State.flag_endInstr, State.flag_setFlag, State.flag_setP]
    split <;> rfl
  refine ⟨_, exec_next .plp s, ?_, hflag, ?_, keepsRegsBut_after s ?_, keepsMemBut_after s (by decide),
    goesOn_of_opRun (i := .plp) rfl rfl rfl⟩
  · rw [after_plp, State.endInstr_SP, State.setFlag_SP, State.setP_SP, State.setSP_SP]
  · rw [handle_irq_eq_self_iff, hflag, if_neg nofun]
  · simp [Reg.forall_iff, Instr.op]

/-- A flag instruction writes one flag other than `U` (R234 to R240). -/
theorem exec_flagWrite {i : Instr} {f : Flag} {b : Bool} (s : State) (hf : f ≠ .U)
    (hwrite : ∀ u, opRun cfg i.op i.mode u = (u.setFlag f b, false)) : ∃ t, exec i s = .next t ∧ t.flag f = b ∧
      keepsFlagsBut [f] s t ∧ keepsRegsBut [] s t ∧ keepsMemBut [] s t ∧ goesOn i s t false := by
  have h := hwrite (ready i s)
  refine ⟨_, exec_next i s, ?_, keepsFlagsBut_of_opRun h fun g hg => ?_, fun r _ => ?_, fun a _ => ?_,
    goesOn_of_opRun h rfl rfl⟩
  · rw [after_of_opRun h, State.flag_endInstr, if_neg hf, State.flag_setFlag, if_pos rfl]
  · rw [State.flag_setFlag, if_neg (List.ne_of_not_mem_cons hg)]
  · rw [after_of_opRun h, State.reg_endInstr, State.reg_setFlag, reg_ready]
  · rw [after_of_opRun h, State.memRead_endInstr, State.memRead_setFlag, memRead_ready]

/-- Settles O36: each of the seven is one flag write. -/
theorem flagInstructionsWriteOneFlag : Obligations.FlagInstructionsWriteOneFlag := by
  refine ⟨tableRow_of_bytes, tableRow_of_bytes, tableRow_of_bytes, tableRow_of_bytes, tableRow_of_bytes,
    tableRow_of_bytes, tableRow_of_bytes, fun e he s => ?_⟩
  simp only [List.mem_cons, List.not_mem_nil, or_false] at he
  obtain rfl | rfl | rfl | rfl | rfl | rfl | rfl := he <;> exact exec_flagWrite s nofun fun _ => rfl

/-- Settles O37: BRK is the shared trap entry, whatever `I` is. -/
theorem breakTakesTheTrap : Obligations.BreakTakesTheTrap := by
  refine ⟨tableRow_of_bytes, fun s => ⟨_, exec_next .brk s, ?_, after_addrAbs_of_mode s rfl nofun nofun,
    after_cycles_of_not_mem_crossSignallers s (by decide) rfl rfl⟩⟩
  rw [after_brk]
  exact trapTaken_endInstr (trapTaken_of_ready (trapTaken_enterTrap _ true (by decide) (by decide))) false

/-- Settles O38: RTI is the shared return from a trap. -/
theorem returnFromInterrupt : Obligations.ReturnFromInterrupt := by
  refine ⟨tableRow_of_bytes, fun s => ?_⟩
  have hPC : (after .rti s).PC = word (s.memRead (stackAddr (s.SP + 3))) (s.memRead (stackAddr (s.SP + 2))) := by
    rw [after_rti, State.endInstr_PC, State.returnFromTrap_eq, State.setPC_PC, ready_SP, memRead_ready, memRead_ready]
  refine ⟨_, exec_next .rti s, ?_, fun f => ?_, ?_, ?_, keepsRegsBut_after s ?_, keepsMemBut_after s (by decide),
    after_cycles_of_not_mem_crossSignallers s (by decide) rfl rfl⟩
  · rw [after_rti, State.endInstr_SP, State.returnFromTrap_eq, State.setPC_SP, State.setP_SP, State.setSP_SP, ready_SP]
  · rw [after_rti, State.flag_endInstr, State.flag_returnFromTrap, ready_SP, memRead_ready]
    cases f <;> rfl
  · rw [hPC, lo_word]
  · rw [hPC, hi_word]
  · simp [Reg.forall_iff, Instr.op]

/-- NOP and the undocumented slots (R243, R244). -/
theorem exec_noOp {i : Instr} (s : State) (h : i.op = .NOP ∨ i.op = .XXX) : ∃ t, exec i s = .next t ∧
    t.PC = s.PC + 1 ∧ t.cycles = cfg.baseCycles i.opcode ∧ t.fetched = s.A ∧
    keepsRegsBut [] s t ∧ keepsFlagsBut [] s t ∧ keepsMemBut [] s t ∧
    t.addrAbs = s.addrAbs ∧ t.addrRel = s.addrRel ∧ t.temp = s.temp := by
  have hafter := after_of_noOp s h
  have hmode : i.mode = .imp := h.elim (mode_eq_imp .NOP · rfl) (mode_eq_imp .XXX · rfl)
  refine ⟨_, exec_next i s, ?_, ?_, ?_, fun r _ => ?_, ⟨after_flag_U i s, fun f hU _ => ?_⟩, fun a _ => ?_,
    after_addrAbs_of_mode s hmode nofun nofun, ?_, ?_⟩
  · rw [hafter, State.endInstr_PC, ready_PC, nextPC, Instr.length, hmode]
    rfl
  · rw [hafter, State.endInstr_cycles, ready_cycles]
    rfl
  · rw [hafter, State.endInstr_fetched, ready_fetched, if_pos hmode]
  · rw [hafter, State.reg_endInstr, reg_ready]
  · rw [hafter, State.flag_endInstr, if_neg hU, flag_ready, if_neg hU]
  · rw [hafter, State.memRead_endInstr, memRead_ready]
  · rw [after_addrRel, ready_addrRel_of_ne_rel s (hmode ▸ nofun)]
  · rw [hafter, State.endInstr_temp, ready_temp]

/-- Settles O39: a row is four equations that hold by evaluation, and nothing of a no-operation runs but the start and
the end of an instruction. -/
theorem noOperationsDoNothing : Obligations.NoOperationsDoNothing := by
  refine ⟨?_, ?_, ?_, ?_, ?_, ?_, ?_, ?_, ?_, fun _ s h => exec_noOp s h⟩ <;> and_intros <;> rfl

end Sys2Proof.Machine
end

section
/-! SUPPORT. What an interrupt leaves, and that every event goes on (60_exceptions.md R262 to R271). -/

namespace Sys2Proof.Machine

/-- What an interrupt taken through the vector `v`, with entry length `n`, leaves (60_exceptions.md R263, R264). -/
def State.interrupted (s : State) (v : Word) (n : Nat) : State := ((s.enterTrap false v).setAddrAbs v).setCycles n

theorem handle_irq_masked {s : State} (hI : s.flag .I = true) : handle .irq s = .next s :=
  (handle_irq_eq_self_iff s).2 hI

theorem handle_irq_accepted {s : State} (hI : s.flag .I = false) :
    handle .irq s = .next (s.interrupted vectorIRQ 7) := by
  have hirq : s.irqEvent cfg = s.interrupted vectorIRQ 7 := if_neg (Bool.eq_false_iff.1 hI)
  rw [← hirq]
  rfl

theorem handle_nmi (s : State) : handle .nmi s = .next (s.interrupted vectorNMI 8) := rfl

theorem State.interrupted_SP (s : State) (v : Word) (n : Nat) : (s.interrupted v n).SP = s.SP - 3 :=
  s.enterTrap_SP false v

theorem State.interrupted_cycles (s : State) (v : Word) (n : Nat) : (s.interrupted v n).cycles = n := rfl

/-- Any interrupt masks `Irq` (D16). -/
theorem State.flag_I_interrupted (s : State) (v : Word) (n : Nat) : (s.interrupted v n).flag .I = true :=
  s.flag_enterTrap false v .I

theorem State.interrupted_PC (s : State) {v : Word} (n : Nat) (hlow : 0xFFFA ≤ v.toNat)
    (hhigh : 0xFFFA ≤ (v + 1).toNat) : (s.interrupted v n).PC = s.memWord v := s.enterTrap_PC false hlow hhigh

/-- The frame of an interrupt overwrites no vector. -/
theorem State.memRead_interrupted_of_le (s : State) (v : Word) (n : Nat) {a : Word} (h : 0xFFFA ≤ a.toNat) :
    (s.interrupted v n).memRead a = s.memRead a := s.memRead_enterTrap_of_le false v h

/-- The return address in the frame of an interrupt (60_exceptions.md R268). -/
theorem State.memRead_interrupted_return (s : State) (v : Word) (n : Nat) :
    (s.interrupted v n).memRead (stackAddr s.SP) = hi s.PC ∧
      (s.interrupted v n).memRead (stackAddr (s.SP - 1)) = lo s.PC := by
  obtain ⟨hhigh, hlow, -⟩ := s.memRead_enterTrap_frame false v
  exact ⟨hhigh, hlow⟩

/-- An interrupt taken at the entry `u` of a trap through `v` returns to what that vector holds (60_exceptions.md
R267). -/
theorem memRead_nested_return {s u : State} {v w : Word} {n : Nat} (hSP : u.SP = s.SP - 3) (hPC : u.PC = s.memWord v) :
    (u.interrupted w n).memRead (stackAddr (s.SP - 3)) = s.memRead (v + 1) ∧
      (u.interrupted w n).memRead (stackAddr (s.SP - 4)) = s.memRead v := by
  obtain ⟨hlo, hhi⟩ := State.lo_hi_of_eq_memWord hPC
  obtain ⟨hhigh, hlow⟩ := u.memRead_interrupted_return w n
  have hSP' : u.SP - 1 = s.SP - 4 := by
    rw [hSP, BitVec.sub_sub]
    rfl
  exact ⟨by rw [← hSP, hhigh, hhi], by rw [← hSP', hlow, hlo]⟩

/-- `addr_abs` and `cycles` are no part of a trap. -/
theorem trapTaken_interrupted (s : State) {v : Word} (n : Nat) (hlow : 0xFFFA ≤ v.toNat)
    (hhigh : 0xFFFA ≤ (v + 1).toNat) : trapTaken s (s.interrupted v n) s.PC false v :=
  trapTaken_enterTrap s false hlow hhigh

/-- The fields of the state record an interrupt sets besides the trap, and those it leaves (D7, D27). -/
theorem State.interrupted_transient (s : State) (v : Word) (n : Nat) :
    (s.interrupted v n).addrAbs = v ∧ (s.interrupted v n).cycles = n ∧
      (s.interrupted v n).clockCount = s.clockCount ∧ (s.interrupted v n).opcode = s.opcode ∧
      (s.interrupted v n).fetched = s.fetched ∧ (s.interrupted v n).addrRel = s.addrRel ∧
      (s.interrupted v n).temp = s.temp :=
  ⟨rfl, rfl, s.enterTrap_clockCount false v, s.enterTrap_opcode false v, s.enterTrap_fetched false v,
    s.enterTrap_addrRel false v, s.enterTrap_temp false v⟩

/-- RTI undoes a trap: the three pulls read the addresses the three pushes wrote (60_exceptions.md R271). -/
theorem exec_rti_of_trapTaken {s t u : State} {ret vector : Word} {brk : Bool} (htrap : trapTaken s t ret brk vector)
    (hSP : u.SP = t.SP) (hM : u.M = t.M) : ∃ v, exec .rti u = .next v ∧ v.PC = ret ∧ v.SP = s.SP ∧
      ∀ f, v.flag f = if f = .B then false else if f = .I ∨ f = .U then true else s.flag f := by
  obtain ⟨hpushed, hhigh, hlow, hstatus, -⟩ := htrap
  obtain ⟨v, hexec, hpulled, hflag, hlo, hhi, -⟩ := returnFromInterrupt.2 u
  have hu : u.SP = s.SP - 3 := hSP.trans hpushed
  have h1 : u.SP + 1 = s.SP - 2 := by rw [hu]; bv_omega
  have h2 : u.SP + 2 = s.SP - 1 := by rw [hu]; bv_omega
  have h3 : u.SP + 3 = s.SP := by rw [hu]; exact BitVec.sub_add_cancel _ _
  rw [State.memRead_congr hM, h2, hlow] at hlo
  rw [State.memRead_congr hM, h3, hhigh] at hhi
  refine ⟨v, hexec, ?_, hpulled.trans h3, fun f => ?_⟩
  · rw [← word_hi_lo v.PC, hhi, hlo, word_hi_lo]
  · rw [hflag, State.memRead_congr hM, h1, hstatus]
    cases f <;> rfl

/-- Every event goes on, whatever the state (60_exceptions.md R262). -/
theorem handle_next (e : Event) (s : State) : ∃ t, handle e s = .next t := by
  cases e with
  | clock =>
    by_cases hidle : s.cycles = 0
    · exact ⟨_, step_idle hidle⟩
    · exact ⟨_, step_busy hidle⟩
  | reset => exact ⟨_, rfl⟩
  | irq => exact ⟨_, rfl⟩
  | nmi => exact ⟨_, rfl⟩
  | hostWrite a v => exact ⟨_, rfl⟩

theorem handleAll_next (es : List Event) (s : State) : ∃ t, handleAll es s = .next t := by
  induction es generalizing s with
  | nil => exact ⟨s, handleAll_nil s⟩
  | cons e es ih =>
    obtain ⟨t, ht⟩ := handle_next e s
    rw [handleAll_cons ht]
    exact ih t

end Sys2Proof.Machine
end

section
/-! The obligations on exceptions (60_exceptions.md R262 to R271). -/

namespace Sys2Proof.Machine

/-- Settles O11: an instruction and an event go on in every state, a sequence by induction on its events. -/
theorem everyEventCompletes : Obligations.EveryEventCompletes :=
  ⟨fun i s => ⟨_, exec_next i s⟩, handle_next, handleAll_next⟩

/-- Settles O40: an accepted `Irq` is the shared trap entry. -/
theorem irqEventIsMaskedByI : Obligations.IrqEventIsMaskedByI :=
  ⟨fun _ => handle_irq_masked, fun s hI => ⟨_, handle_irq_accepted hI,
    trapTaken_interrupted s 7 (by decide) (by decide), s.interrupted_transient vectorIRQ 7⟩⟩

/-- Settles O41: `Nmi` is the shared trap entry, whatever `I` is. -/
theorem nmiEventIsUnconditional : Obligations.NmiEventIsUnconditional := fun s =>
  ⟨_, handle_nmi s, trapTaken_interrupted s 8 (by decide) (by decide), s.interrupted_transient vectorNMI 8⟩

/-- Settles O44: a masked `Irq` goes on in the state it finds, and every event hands on the state alone. -/
theorem maskedIrqLeavesNoTrace : Obligations.MaskedIrqLeavesNoTrace :=
  ⟨fun _ es hI => handleAll_cons (handle_irq_masked hI) es, fun _ _ _ es h => handleAll_cons h es⟩

/-- Settles O46: each of the three leaves a trap's frame. -/
theorem returnFromUnmodifiedFrame : Obligations.ReturnFromUnmodifiedFrame := by
  rintro s t u ret (⟨hbrk, rfl⟩ | ⟨hirq, hI, rfl⟩ | ⟨hnmi, rfl⟩) hSP hM
  · obtain ⟨t', hexec, htrap, -⟩ := breakTakesTheTrap.2 s
    obtain rfl := Host.Outcome.next.inj (hexec.symm.trans hbrk)
    exact exec_rti_of_trapTaken htrap hSP hM
  · obtain rfl := Host.Outcome.next.inj ((handle_irq_accepted hI).symm.trans hirq)
    exact exec_rti_of_trapTaken (trapTaken_interrupted s 7 (by decide) (by decide)) hSP hM
  · obtain rfl := Host.Outcome.next.inj ((handle_nmi s).symm.trans hnmi)
    exact exec_rti_of_trapTaken (trapTaken_interrupted s 8 (by decide) (by decide)) hSP hM

/-- Settles O47: `Nmi` sets `I`, and the `Nmi` frame returns to what the IRQ vector held when `Irq` was accepted. -/
theorem nmiAndIrqTakeEffectInTheOrderIssued : Obligations.NmiAndIrqTakeEffectInTheOrderIssued := by
  refine ⟨fun s => ?_, fun s hI => ?_⟩
  · rw [handleAll_cons (handle_nmi s), handleAll_cons (handle_nmi s),
      handleAll_cons (handle_irq_masked (s.flag_I_interrupted vectorNMI 8))]
  · obtain ⟨hhigh, hlow⟩ := memRead_nested_return (w := vectorNMI) (n := 8) (s.interrupted_SP vectorIRQ 7)
      (s.interrupted_PC 7 (by decide) (by decide))
    refine ⟨_, (handleAll_cons (handle_irq_accepted hI) _).trans (handleAll_cons (handle_nmi _) []), ?_,
      State.interrupted_cycles _ _ _, ?_, hhigh, hlow⟩
    · rw [State.interrupted_PC _ 8 (by decide) (by decide), State.memWord,
        s.memRead_interrupted_of_le _ _ (by decide), s.memRead_interrupted_of_le _ _ (by decide)]
      rfl
    · rw [State.interrupted_SP, State.interrupted_SP, BitVec.sub_sub]
      rfl

end Sys2Proof.Machine
end

section
/-! The `Reset` event (70_reset_and_hazards.md R300 to R304): the launch state it leaves, and the countdown after it. -/

namespace Sys2Proof.Machine

/-- `Reset` leaves the launch state of the memory, `opcode` and `temp` it finds (R300, R301, D27). -/
theorem handle_reset (s : State) : handle .reset s = .next (State.launch s.M s.opcode s.temp) := rfl

/-- Settles O42: the fields are those of the launch state, whose `PC` is the word at the vector. -/
theorem resetEventReinitialises : Obligations.ResetEventReinitialises := by
  intro s
  obtain ⟨hlo, hhi⟩ := State.lo_hi_of_eq_memWord (s := s) (a := vectorReset)
    (w := (State.launch s.M s.opcode s.temp).PC) rfl
  exact ⟨_, handle_reset s, rfl, rfl, rfl, rfl, rfl, hlo, hhi, rfl, rfl, rfl, rfl, rfl, rfl, rfl, rfl, rfl⟩

/-- Settles O43: the launch state depends on nothing but the memory, `opcode` and `temp`, which it keeps. -/
theorem resetIsIdempotent : Obligations.ResetIsIdempotent := by
  intro s t h
  obtain rfl := Host.Outcome.next.inj ((handle_reset s).symm.trans h)
  exact handle_reset _

/-- Events handled one after the other are handled from where the first ones lead. -/
theorem handleAll_append {es : List Event} {s t : State} (h : handleAll es s = .next t) (fs : List Event) :
    handleAll (es ++ fs) s = handleAll fs t := by
  induction es generalizing s with
  | nil =>
    obtain rfl := Host.Outcome.next.inj h
    rfl
  | cons e es ih =>
    obtain ⟨u, hu⟩ := handle_next e s
    rw [handleAll_cons hu] at h
    rw [List.cons_append, handleAll_cons hu, ih h]

/-- The launch state is busy for 8 `Clock` events, which only count (R304). -/
theorem handleAll_clock_launch (M0 : Memory) (opcode0 : Byte) (temp0 : Word) {k : Nat} (h : k ≤ 8) :
    handleAll (List.replicate k .clock) (State.launch M0 opcode0 temp0) =
      .next (((State.launch M0 opcode0 temp0).setCycles (8 - k)).setClockCount k) := by
  rw [handleAll_clock_of_le h, State.launch, Nat.zero_add]

/-- Settles O45: after 8 events the launch state is idle, and the 9th runs the instruction it fetches. -/
theorem resetCountsDownEightEvents : Obligations.ResetCountsDownEightEvents := by
  intro s t h
  obtain rfl := Host.Outcome.next.inj ((handle_reset s).symm.trans h)
  refine ⟨rfl, fun k hk => handleAll_clock_launch _ _ _ hk, rfl, fun u hexec => ?_⟩
  rw [List.replicate_succ', handleAll_append (handleAll_clock_launch _ _ _ le_rfl), exec_next_iff.1 hexec]
  exact handleAll_cons (e := .clock) (step_idle rfl) []

end Sys2Proof.Machine
end

section
/-! SUPPORT. Nothing an operation computes looks at `cycles` or `clock_count` (70_reset_and_hazards.md R310): to wait
before an operation is to wait after it. -/

namespace Sys2Proof.Machine

/-- The state with `d` more cycles to count down and `k` as `clock_count`. -/
def State.retimed (s : State) (d k : Nat) : State := (s.setCycles (d + s.cycles)).setClockCount k

variable (s : State) (d k : Nat)

@[simp] theorem State.retimed_A : (s.retimed d k).A = s.A := rfl
@[simp] theorem State.retimed_X : (s.retimed d k).X = s.X := rfl
@[simp] theorem State.retimed_Y : (s.retimed d k).Y = s.Y := rfl
@[simp] theorem State.retimed_SP : (s.retimed d k).SP = s.SP := rfl
@[simp] theorem State.retimed_P : (s.retimed d k).P = s.P := rfl
@[simp] theorem State.retimed_PC : (s.retimed d k).PC = s.PC := rfl
@[simp] theorem State.retimed_fetched : (s.retimed d k).fetched = s.fetched := rfl
@[simp] theorem State.retimed_opcode : (s.retimed d k).opcode = s.opcode := rfl
@[simp] theorem State.retimed_addrAbs : (s.retimed d k).addrAbs = s.addrAbs := rfl
@[simp] theorem State.retimed_temp : (s.retimed d k).temp = s.temp := rfl
@[simp] theorem State.retimed_cycles : (s.retimed d k).cycles = d + s.cycles := rfl
@[simp] theorem State.flag_retimed (f) : (s.retimed d k).flag f = s.flag f := rfl
@[simp] theorem State.memWord_retimed (a) : (s.retimed d k).memWord a = s.memWord a := rfl
@[simp] theorem State.carryWord_retimed : (s.retimed d k).carryWord = s.carryWord := rfl
@[simp] theorem State.setA_retimed (v) : (s.retimed d k).setA v = (s.setA v).retimed d k := rfl
@[simp] theorem State.setX_retimed (v) : (s.retimed d k).setX v = (s.setX v).retimed d k := rfl
@[simp] theorem State.setY_retimed (v) : (s.retimed d k).setY v = (s.setY v).retimed d k := rfl
@[simp] theorem State.setSP_retimed (v) : (s.retimed d k).setSP v = (s.setSP v).retimed d k := rfl
@[simp] theorem State.setP_retimed (v) : (s.retimed d k).setP v = (s.setP v).retimed d k := rfl
@[simp] theorem State.setPC_retimed (v) : (s.retimed d k).setPC v = (s.setPC v).retimed d k := rfl
@[simp] theorem State.setTemp_retimed (v) : (s.retimed d k).setTemp v = (s.setTemp v).retimed d k := rfl
@[simp] theorem State.setFlag_retimed (f b) : (s.retimed d k).setFlag f b = (s.setFlag f b).retimed d k := rfl
@[simp] theorem State.setZN_retimed (v) : (s.retimed d k).setZN v = (s.setZN v).retimed d k := rfl
@[simp] theorem State.memWrite_retimed (a v) : (s.retimed d k).memWrite a v = (s.memWrite a v).retimed d k := rfl
@[simp] theorem State.push_retimed (v) : (s.retimed d k).push v = (s.push v).retimed d k := rfl
@[simp] theorem State.pushWord_retimed (w) : (s.retimed d k).pushWord w = (s.pushWord w).retimed d k := rfl
@[simp] theorem State.pull_retimed : (s.retimed d k).pull = (s.pull.1, s.pull.2.retimed d k) := rfl
@[simp] theorem State.pullWord_retimed : (s.retimed d k).pullWord = (s.pullWord.1, s.pullWord.2.retimed d k) := rfl

@[simp] theorem State.enterTrap_retimed (brk v) :
    (s.retimed d k).enterTrap brk v = (s.enterTrap brk v).retimed d k := by
  simp [State.enterTrap]

@[simp] theorem State.returnFromTrap_retimed : (s.retimed d k).returnFromTrap = s.returnFromTrap.retimed d k := by
  simp [State.returnFromTrap]

@[simp] theorem State.addWithCarry_retimed (v) :
    (s.retimed d k).addWithCarry v = (s.addWithCarry v).retimed d k := by
  simp [State.addWithCarry]

@[simp] theorem State.compareWith_retimed (r) :
    (s.retimed d k).compareWith r = (s.compareWith r).retimed d k := by
  simp [State.compareWith]

@[simp] theorem State.endInstr_retimed (extra) :
    (s.retimed d k).endInstr extra = (s.endInstr extra).retimed d k := by
  cases extra <;> rfl

@[simp] theorem fetch_retimed (m : Mode) : fetch m (s.retimed d k) = (fetch m s).retimed d k := by cases m <;> rfl

@[simp] theorem writeBack_retimed (m : Mode) (v) :
    writeBack m v (s.retimed d k) = (writeBack m v s).retimed d k := by
  cases m <;> rfl

theorem resolve_retimed (m : Mode) : (resolve m (s.retimed d k)).1 = (resolve m s).1.retimed d k := by
  cases m <;> rfl

/-- A branch adds to the count it finds (44_branch_jump.md R210). -/
@[simp] theorem State.branch_retimed (taken) : (s.retimed d k).branch taken = (s.branch taken).retimed d k := by
  cases taken
  · rfl
  · simp only [State.branch, State.retimed, if_true, State.setCycles_cycles, State.setClockCount_cycles, Nat.add_assoc]
    rfl

/-- Each operation works on the fields a state shares with its retimed one, and a branch adds to the count. -/
theorem opRun_retimed (c : Config) (o : Op) (m : Mode) :
    opRun c o m (s.retimed d k) = ((opRun c o m s).1.retimed d k, (opRun c o m s).2) := by
  cases o
  case LDA | LDX | LDY => simp [opRun, opLDA, opLDX, opLDY]
  case STA | STX | STY => simp [opRun, opSTA, opSTX, opSTY]
  case TAX | TAY | TXA | TYA | TSX | TXS => simp [opRun, opTAX, opTAY, opTXA, opTYA, opTSX, opTXS]
  case AND | ORA | EOR | BIT => simp [opRun, opAND, opORA, opEOR, opBIT]
  case ADC | SBC => simp [opRun, opADC, opSBC]
  case CMP | CPX | CPY => simp [opRun, opCMP, opCPX, opCPY]
  case ASL | LSR | ROL | ROR => simp [opRun, opASL, opLSR, opROL, opROR]
  case INC | DEC => simp [opRun, opINC, opDEC]
  case INX | INY | DEX | DEY => simp [opRun, opINX, opINY, opDEX, opDEY]
  case BCC | BCS | BEQ | BNE | BMI | BPL | BVC | BVS =>
    simp [opRun, opBCC, opBCS, opBEQ, opBNE, opBMI, opBPL, opBVC, opBVS]
  case JMP | JSR | RTS => simp [opRun, opJMP, opJSR, opRTS]
  case PHA | PHP | PLA | PLP => simp [opRun, opPHA, opPHP, opPLA, opPLP]
  case CLC | CLD | CLI | CLV | SEC | SED | SEI =>
    simp [opRun, opCLC, opCLD, opCLI, opCLV, opSEC, opSED, opSEI]
  case BRK | RTI => simp [opRun, opBRK, opRTI]
  case NOP | XXX => simp [opRun, opNOP, opXXX]

end Sys2Proof.Machine
end

section
/-! SUPPORT. What an instruction leaves but for its base cycle count (40_step_and_addressing.md R120, R138): a
configuration and the counters it finds decide how far that state is retimed, and nothing else. -/

namespace Sys2Proof.Machine

/-- NOP looks at the configuration for its signal alone (45_stack_flags_system.md R243). -/
theorem opRun_fst_eq_cfg (c : Config) (o : Op) (m : Mode) (s : State) : (opRun c o m s).1 = (opRun cfg o m s).1 := by
  cases o <;> rfl

/-- An undocumented slot does nothing, whichever no-operation a configuration gives it (30_encoding.md R97). -/
theorem opRun_opUnder_fst (c : Config) (i : Instr) (s : State) :
    (opRun c (i.opUnder c) i.mode s).1 = (opRun cfg i.op i.mode s).1 := by
  obtain ⟨-, hop⟩ | ⟨-, -, hrow, hunder⟩ := opUnder_cases c i
  · rw [hop, opRun_fst_eq_cfg]
  · obtain hrow | hrow := hrow <;> obtain hunder | hunder := hunder <;> rw [hrow, hunder] <;> rfl

/-- No configuration makes a NOP take the extra cycle, since no NOP crosses a page. -/
theorem pageCross_and_signal_opUnder (c : Config) (i : Instr) (s u : State) :
    (pageCross i.mode s && (opRun c (i.opUnder c) i.mode u).2) =
      (decide (i.op ∈ crossSignallers) && pageCross i.mode s) := by
  by_cases hno : i.op = .NOP ∨ i.op = .XXX
  · have hcross := pageCross_of_not_mem (by rw [kind_of_nop_or_xxx hno]; decide) s
    rw [hcross, Bool.false_and, Bool.and_false]
  · obtain ⟨-, hop⟩ | ⟨-, -, hrow, -⟩ := opUnder_cases c i
    · have hnop : i.op ≠ .NOP := fun h => hno (.inl h)
      rw [hop, opRun_signal, beq_false_of_ne hnop, Bool.false_and, Bool.or_false, Bool.and_comm]
    · exact absurd hrow hno

/-- The state in which the operation of `i` runs when no base cycle is counted. -/
def readyUncounted (i : Instr) (s : State) : State :=
  (resolve i.mode ((s.beginInstr cfg i.opcode).setCycles 0)).1

/-- What `i` leaves when no base cycle is counted: the cycles of a taken branch or of a page cross alone. -/
def afterUncounted (i : Instr) (s : State) : State :=
  (opRun cfg i.op i.mode (readyUncounted i s)).1.endInstr (decide (i.op ∈ crossSignallers) && pageCross i.mode s)

/-- The start of an instruction overwrites `cycles` with its base count. -/
theorem beginInstr_setCycles_setClockCount (c : Config) (opc : Byte) (s : State) (n k : Nat) :
    ((s.setCycles n).setClockCount k).beginInstr c opc =
      ((s.beginInstr cfg opc).setCycles 0).retimed (c.baseCycles opc) k := rfl

theorem pageCross_setCycles_setClockCount (m : Mode) (s : State) (n k : Nat) :
    pageCross m ((s.setCycles n).setClockCount k) = pageCross m s := by
  cases m <;> rfl

/-- An instruction overwrites `cycles` with its base count, and hands on `clock_count`. -/
theorem execIn_setCycles_setClockCount (c : Config) (i : Instr) (s : State) (n k : Nat) :
    execIn c i ((s.setCycles n).setClockCount k) = .next ((afterUncounted i s).retimed (c.baseCycles i.opcode) k) := by
  rw [execIn_next, afterOp, pageCross_and_signal_opUnder, opRun_opUnder_fst,
    beginInstr_setCycles_setClockCount, resolve_retimed, opRun_retimed, pageCross_setCycles_setClockCount,
    State.endInstr_retimed, afterUncounted, readyUncounted]

theorem execIn_eq_retimed (c : Config) (i : Instr) (s : State) :
    execIn c i s = .next ((afterUncounted i s).retimed (c.baseCycles i.opcode) s.clockCount) :=
  execIn_setCycles_setClockCount c i s s.cycles s.clockCount

theorem exec_eq_retimed (i : Instr) (s : State) :
    exec i s = .next ((afterUncounted i s).retimed (cfg.baseCycles i.opcode) s.clockCount) := by
  rw [exec_eq_execIn, execIn_eq_retimed]

end Sys2Proof.Machine
end

section
/-! The obligation on the counters and the configuration (70_reset_and_hazards.md R310, 00_scope.md R5). -/

namespace Sys2Proof.Machine

/-- An instruction hands on `clock_count` and does not read `cycles` (R310). -/
theorem exec_setCycles_setClockCount {i : Instr} {s t : State} (h : exec i s = .next t) (n k : Nat) :
    exec i ((s.setCycles n).setClockCount k) = .next (t.setClockCount k) := by
  obtain rfl := Host.Outcome.next.inj ((exec_eq_retimed i s).symm.trans h)
  rw [exec_eq_execIn, execIn_setCycles_setClockCount]
  rfl

/-- An interrupt overwrites `cycles` with its entry length, and hands on `clock_count` (R310). -/
theorem State.interrupted_setCycles_setClockCount (s : State) (v : Word) (m n k : Nat) :
    ((s.setCycles n).setClockCount k).interrupted v m = (s.interrupted v m).setClockCount k := rfl

/-- A configuration moves `cycles` by the difference of the base counts (R5, 40_step_and_addressing.md R138). -/
theorem execIn_of_exec (c : Config) {i : Instr} {s t : State} (h : exec i s = .next t) :
    ∃ u, execIn c i s = .next u ∧ u = t.setCycles u.cycles ∧
      u.cycles + cfg.baseCycles i.opcode = t.cycles + c.baseCycles i.opcode := by
  obtain rfl := Host.Outcome.next.inj ((exec_eq_retimed i s).symm.trans h)
  refine ⟨_, execIn_eq_retimed c i s, rfl, ?_⟩
  simp only [State.retimed_cycles]
  omega

theorem stepIn_busy (c : Config) {s : State} (h : s.cycles ≠ 0) : stepIn c s = .next s.clockTick := by
  rw [stepIn, clockEvent, if_neg (mt s.complete_iff.1 h)]

theorem stepIn_idle {c : Config} {s u : State} (h : s.cycles = 0) (hexec : execIn c s.fetchInstr s = .next u) :
    stepIn c s = .next u.clockTick := by
  rw [stepIn, clockEvent, if_pos (s.complete_iff.2 h), hexec]

/-- The other events look at a configuration for the fixed entry lengths alone (R5). -/
theorem handleIn_of_ne_clock {c : Config} (hc : c.wellFormed) {e : Event} (h : e ≠ .clock) (s : State) :
    handleIn c e s = handle e s := by
  obtain ⟨-, hreset, hirq, hnmi⟩ := hc
  cases e with
  | clock => exact absurd rfl h
  | reset => simp only [handleIn, handle, handleWith, State.resetEvent, hreset, cfg]
  | irq => simp only [handleIn, handle, handleWith, State.irqEvent, hirq, cfg]
  | nmi => simp only [handleIn, handle, handleWith, State.nmiEvent, hnmi, cfg]
  | hostWrite a v => rfl

/-- Settles O57: an instruction's result is one state retimed by the base count and `clock_count`, and an event writes
`cycles` or leaves it. -/
theorem timingDoesNotFeedBack : Obligations.TimingDoesNotFeedBack := by
  refine ⟨fun _ _ _ n k h => exec_setCycles_setClockCount h n k, fun s n k => ⟨rfl, fun t h => ?_, fun t hI h => ?_,
      fun hI => handle_irq_masked hI⟩,
    fun i s => ⟨exec_eq_execIn i s, step_eq_stepIn s⟩, fun c _ _ _ h => execIn_of_exec c h,
    fun c _ h => (stepIn_busy c h).trans (step_busy h).symm, fun _ _ _ => stepIn_idle,
    fun _ _ s hc he => handleIn_of_ne_clock hc he s⟩
  · obtain rfl := Host.Outcome.next.inj ((handle_nmi s).symm.trans h)
    rw [handle_nmi, State.interrupted_setCycles_setClockCount]
  · obtain rfl := Host.Outcome.next.inj ((handle_irq_accepted hI).symm.trans h)
    rw [handle_irq_accepted (s := (s.setCycles n).setClockCount k) hI, State.interrupted_setCycles_setClockCount]

end Sys2Proof.Machine
end
